-- ==== Sys2Proof/Word.lean ====
section
/-! DEFINITION. The word types of the machine: bytes and 16-bit addresses (10_state.md R15, R17; 20_memory.md R30). -/

namespace Sys2Proof

/-- A byte, 0 to 255 (00_scope.md R9). -/
abbrev Byte := BitVec 8

/-- A 16-bit address or word; its arithmetic is modulo 65536 (20_memory.md R30). -/
abbrev Addr := BitVec 16

end Sys2Proof
end

