-- ==== Sys2Proof/Syntax.lean ====
section
/-! DEFINITION. The instruction set as syntax: one constructor per row of spec/opcode_table.json (30_encoding.md R70, R71).
The rows that differ only in a number inside the opcode byte (R68: SET1, CLR1, BBS, BBC carry a bit number, TCALL a
vector number) share one constructor with that number as a field (log 11).
Fields (R67): `i` immediate byte, `d` direct-page offset, `a` 16-bit operand, `r` displacement byte (signed when used),
`ds` and `dd` source and destination offsets in the order of the bytes, `u` page-0xFF offset, `m` and `b` the 13-bit
address and bit number of the memory-bit forms (R56), `n` the vector number. -/

namespace Sys2Proof

/-- An instruction of the SPC700 map (R70). -/
inductive Instr where
  -- Data movement (40_data_movement.md)
  /-- `MOV A,#imm`, opcode 0xE8, R76. -/
  | movAImm (i : Byte)
  /-- `MOV A,(X)`, opcode 0xE6, R77. -/
  | movAIndX
  /-- `MOV A,(X)+`, opcode 0xBF, R78. -/
  | movAIndXInc
  /-- `MOV A,$dp`, opcode 0xE4, R79. -/
  | movADp (d : Byte)
  /-- `MOV A,$dp+X`, opcode 0xF4, R80. -/
  | movADpX (d : Byte)
  /-- `MOV A,$aaaa`, opcode 0xE5, R81. -/
  | movAAbs (a : Addr)
  /-- `MOV A,$aaaa+X`, opcode 0xF5, R82. -/
  | movAAbsX (a : Addr)
  /-- `MOV A,$aaaa+Y`, opcode 0xF6, R83. -/
  | movAAbsY (a : Addr)
  /-- `MOV A,[$dp+X]`, opcode 0xE7, R84. -/
  | movAIdxInd (d : Byte)
  /-- `MOV A,[$dp]+Y`, opcode 0xF7, R85. -/
  | movAIndIdx (d : Byte)
  /-- `MOV X,#imm`, opcode 0xCD, R86. -/
  | movXImm (i : Byte)
  /-- `MOV X,$dp`, opcode 0xF8, R87. -/
  | movXDp (d : Byte)
  /-- `MOV X,$dp+Y`, opcode 0xF9, R88. -/
  | movXDpY (d : Byte)
  /-- `MOV X,$aaaa`, opcode 0xE9, R89. -/
  | movXAbs (a : Addr)
  /-- `MOV Y,#imm`, opcode 0x8D, R90. -/
  | movYImm (i : Byte)
  /-- `MOV Y,$dp`, opcode 0xEB, R91. -/
  | movYDp (d : Byte)
  /-- `MOV Y,$dp+X`, opcode 0xFB, R92. -/
  | movYDpX (d : Byte)
  /-- `MOV Y,$aaaa`, opcode 0xEC, R93. -/
  | movYAbs (a : Addr)
  /-- `MOV (X),A`, opcode 0xC6, R94. -/
  | movIndXA
  /-- `MOV (X)+,A`, opcode 0xAF, R95. -/
  | movIndXIncA
  /-- `MOV $dp,A`, opcode 0xC4, R96. -/
  | movDpA (d : Byte)
  /-- `MOV $dp+X,A`, opcode 0xD4, R97. -/
  | movDpXA (d : Byte)
  /-- `MOV $aaaa,A`, opcode 0xC5, R98. -/
  | movAbsA (a : Addr)
  /-- `MOV $aaaa+X,A`, opcode 0xD5, R99. -/
  | movAbsXA (a : Addr)
  /-- `MOV $aaaa+Y,A`, opcode 0xD6, R100. -/
  | movAbsYA (a : Addr)
  /-- `MOV [$dp+X],A`, opcode 0xC7, R101. -/
  | movIdxIndA (d : Byte)
  /-- `MOV [$dp]+Y,A`, opcode 0xD7, R102. -/
  | movIndIdxA (d : Byte)
  /-- `MOV $dp,X`, opcode 0xD8, R103. -/
  | movDpX (d : Byte)
  /-- `MOV $dp+Y,X`, opcode 0xD9, R104. -/
  | movDpYX (d : Byte)
  /-- `MOV $aaaa,X`, opcode 0xC9, R105. -/
  | movAbsX (a : Addr)
  /-- `MOV $dp,Y`, opcode 0xCB, R106. -/
  | movDpY (d : Byte)
  /-- `MOV $dp+X,Y`, opcode 0xDB, R107. -/
  | movDpXY (d : Byte)
  /-- `MOV $aaaa,Y`, opcode 0xCC, R108. -/
  | movAbsY (a : Addr)
  /-- `MOV A,X`, opcode 0x7D, R109. -/
  | movAX
  /-- `MOV A,Y`, opcode 0xDD, R110. -/
  | movAY
  /-- `MOV X,A`, opcode 0x5D, R111. -/
  | movXA
  /-- `MOV Y,A`, opcode 0xFD, R112. -/
  | movYA
  /-- `MOV X,SP`, opcode 0x9D, R113. -/
  | movXSp
  /-- `MOV SP,X`, opcode 0xBD, R114. -/
  | movSpX
  /-- `MOV $dd,$ds`, opcode 0xFA, R115. -/
  | movDpDp (ds : Byte) (dd : Byte)
  /-- `MOV $dp,#imm`, opcode 0x8F, R116. -/
  | movDpImm (i : Byte) (d : Byte)
  /-- `MOVW YA,$dp`, opcode 0xBA, R117. -/
  | movwYADp (d : Byte)
  /-- `MOVW $dp,YA`, opcode 0xDA, R118. -/
  | movwDpYA (d : Byte)
  /-- `XCN A`, opcode 0x9F, R119. -/
  | xcn
  /-- `PUSH A`, opcode 0x2D, R120. -/
  | pushA
  /-- `PUSH X`, opcode 0x4D, R121. -/
  | pushX
  /-- `PUSH Y`, opcode 0x6D, R122. -/
  | pushY
  /-- `PUSH PSW`, opcode 0x0D, R123. -/
  | pushPsw
  /-- `POP A`, opcode 0xAE, R124. -/
  | popA
  /-- `POP X`, opcode 0xCE, R125. -/
  | popX
  /-- `POP Y`, opcode 0xEE, R126. -/
  | popY
  /-- `POP PSW`, opcode 0x8E, R127. -/
  | popPsw
  -- 8-bit ALU (41_alu8.md)
  /-- `OR A,#imm`, opcode 0x08, R134. -/
  | orAImm (i : Byte)
  /-- `OR A,(X)`, opcode 0x06, R135. -/
  | orAIndX
  /-- `OR A,$dp`, opcode 0x04, R136. -/
  | orADp (d : Byte)
  /-- `OR A,$dp+X`, opcode 0x14, R137. -/
  | orADpX (d : Byte)
  /-- `OR A,$aaaa`, opcode 0x05, R138. -/
  | orAAbs (a : Addr)
  /-- `OR A,$aaaa+X`, opcode 0x15, R139. -/
  | orAAbsX (a : Addr)
  /-- `OR A,$aaaa+Y`, opcode 0x16, R140. -/
  | orAAbsY (a : Addr)
  /-- `OR A,[$dp+X]`, opcode 0x07, R141. -/
  | orAIdxInd (d : Byte)
  /-- `OR A,[$dp]+Y`, opcode 0x17, R142. -/
  | orAIndIdx (d : Byte)
  /-- `OR (X),(Y)`, opcode 0x19, R143. -/
  | orIndXIndY
  /-- `OR $dd,$ds`, opcode 0x09, R144. -/
  | orDpDp (ds : Byte) (dd : Byte)
  /-- `OR $dp,#imm`, opcode 0x18, R145. -/
  | orDpImm (i : Byte) (d : Byte)
  /-- `AND A,#imm`, opcode 0x28, R146. -/
  | andAImm (i : Byte)
  /-- `AND A,(X)`, opcode 0x26, R147. -/
  | andAIndX
  /-- `AND A,$dp`, opcode 0x24, R148. -/
  | andADp (d : Byte)
  /-- `AND A,$dp+X`, opcode 0x34, R149. -/
  | andADpX (d : Byte)
  /-- `AND A,$aaaa`, opcode 0x25, R150. -/
  | andAAbs (a : Addr)
  /-- `AND A,$aaaa+X`, opcode 0x35, R151. -/
  | andAAbsX (a : Addr)
  /-- `AND A,$aaaa+Y`, opcode 0x36, R152. -/
  | andAAbsY (a : Addr)
  /-- `AND A,[$dp+X]`, opcode 0x27, R153. -/
  | andAIdxInd (d : Byte)
  /-- `AND A,[$dp]+Y`, opcode 0x37, R154. -/
  | andAIndIdx (d : Byte)
  /-- `AND (X),(Y)`, opcode 0x39, R155. -/
  | andIndXIndY
  /-- `AND $dd,$ds`, opcode 0x29, R156. -/
  | andDpDp (ds : Byte) (dd : Byte)
  /-- `AND $dp,#imm`, opcode 0x38, R157. -/
  | andDpImm (i : Byte) (d : Byte)
  /-- `EOR A,#imm`, opcode 0x48, R158. -/
  | eorAImm (i : Byte)
  /-- `EOR A,(X)`, opcode 0x46, R159. -/
  | eorAIndX
  /-- `EOR A,$dp`, opcode 0x44, R160. -/
  | eorADp (d : Byte)
  /-- `EOR A,$dp+X`, opcode 0x54, R161. -/
  | eorADpX (d : Byte)
  /-- `EOR A,$aaaa`, opcode 0x45, R162. -/
  | eorAAbs (a : Addr)
  /-- `EOR A,$aaaa+X`, opcode 0x55, R163. -/
  | eorAAbsX (a : Addr)
  /-- `EOR A,$aaaa+Y`, opcode 0x56, R164. -/
  | eorAAbsY (a : Addr)
  /-- `EOR A,[$dp+X]`, opcode 0x47, R165. -/
  | eorAIdxInd (d : Byte)
  /-- `EOR A,[$dp]+Y`, opcode 0x57, R166. -/
  | eorAIndIdx (d : Byte)
  /-- `EOR (X),(Y)`, opcode 0x59, R167. -/
  | eorIndXIndY
  /-- `EOR $dd,$ds`, opcode 0x49, R168. -/
  | eorDpDp (ds : Byte) (dd : Byte)
  /-- `EOR $dp,#imm`, opcode 0x58, R169. -/
  | eorDpImm (i : Byte) (d : Byte)
  /-- `CMP A,#imm`, opcode 0x68, R170. -/
  | cmpAImm (i : Byte)
  /-- `CMP A,(X)`, opcode 0x66, R171. -/
  | cmpAIndX
  /-- `CMP A,$dp`, opcode 0x64, R172. -/
  | cmpADp (d : Byte)
  /-- `CMP A,$dp+X`, opcode 0x74, R173. -/
  | cmpADpX (d : Byte)
  /-- `CMP A,$aaaa`, opcode 0x65, R174. -/
  | cmpAAbs (a : Addr)
  /-- `CMP A,$aaaa+X`, opcode 0x75, R175. -/
  | cmpAAbsX (a : Addr)
  /-- `CMP A,$aaaa+Y`, opcode 0x76, R176. -/
  | cmpAAbsY (a : Addr)
  /-- `CMP A,[$dp+X]`, opcode 0x67, R177. -/
  | cmpAIdxInd (d : Byte)
  /-- `CMP A,[$dp]+Y`, opcode 0x77, R178. -/
  | cmpAIndIdx (d : Byte)
  /-- `CMP (X),(Y)`, opcode 0x79, R179. -/
  | cmpIndXIndY
  /-- `CMP $dd,$ds`, opcode 0x69, R180. -/
  | cmpDpDp (ds : Byte) (dd : Byte)
  /-- `CMP $dp,#imm`, opcode 0x78, R181. -/
  | cmpDpImm (i : Byte) (d : Byte)
  /-- `ADC A,#imm`, opcode 0x88, R182. -/
  | adcAImm (i : Byte)
  /-- `ADC A,(X)`, opcode 0x86, R183. -/
  | adcAIndX
  /-- `ADC A,$dp`, opcode 0x84, R184. -/
  | adcADp (d : Byte)
  /-- `ADC A,$dp+X`, opcode 0x94, R185. -/
  | adcADpX (d : Byte)
  /-- `ADC A,$aaaa`, opcode 0x85, R186. -/
  | adcAAbs (a : Addr)
  /-- `ADC A,$aaaa+X`, opcode 0x95, R187. -/
  | adcAAbsX (a : Addr)
  /-- `ADC A,$aaaa+Y`, opcode 0x96, R188. -/
  | adcAAbsY (a : Addr)
  /-- `ADC A,[$dp+X]`, opcode 0x87, R189. -/
  | adcAIdxInd (d : Byte)
  /-- `ADC A,[$dp]+Y`, opcode 0x97, R190. -/
  | adcAIndIdx (d : Byte)
  /-- `ADC (X),(Y)`, opcode 0x99, R191. -/
  | adcIndXIndY
  /-- `ADC $dd,$ds`, opcode 0x89, R192. -/
  | adcDpDp (ds : Byte) (dd : Byte)
  /-- `ADC $dp,#imm`, opcode 0x98, R193. -/
  | adcDpImm (i : Byte) (d : Byte)
  /-- `SBC A,#imm`, opcode 0xA8, R194. -/
  | sbcAImm (i : Byte)
  /-- `SBC A,(X)`, opcode 0xA6, R195. -/
  | sbcAIndX
  /-- `SBC A,$dp`, opcode 0xA4, R196. -/
  | sbcADp (d : Byte)
  /-- `SBC A,$dp+X`, opcode 0xB4, R197. -/
  | sbcADpX (d : Byte)
  /-- `SBC A,$aaaa`, opcode 0xA5, R198. -/
  | sbcAAbs (a : Addr)
  /-- `SBC A,$aaaa+X`, opcode 0xB5, R199. -/
  | sbcAAbsX (a : Addr)
  /-- `SBC A,$aaaa+Y`, opcode 0xB6, R200. -/
  | sbcAAbsY (a : Addr)
  /-- `SBC A,[$dp+X]`, opcode 0xA7, R201. -/
  | sbcAIdxInd (d : Byte)
  /-- `SBC A,[$dp]+Y`, opcode 0xB7, R202. -/
  | sbcAIndIdx (d : Byte)
  /-- `SBC (X),(Y)`, opcode 0xB9, R203. -/
  | sbcIndXIndY
  /-- `SBC $dd,$ds`, opcode 0xA9, R204. -/
  | sbcDpDp (ds : Byte) (dd : Byte)
  /-- `SBC $dp,#imm`, opcode 0xB8, R205. -/
  | sbcDpImm (i : Byte) (d : Byte)
  /-- `CMP X,#imm`, opcode 0xC8, R206. -/
  | cmpXImm (i : Byte)
  /-- `CMP X,$dp`, opcode 0x3E, R207. -/
  | cmpXDp (d : Byte)
  /-- `CMP X,$aaaa`, opcode 0x1E, R208. -/
  | cmpXAbs (a : Addr)
  /-- `CMP Y,#imm`, opcode 0xAD, R209. -/
  | cmpYImm (i : Byte)
  /-- `CMP Y,$dp`, opcode 0x7E, R210. -/
  | cmpYDp (d : Byte)
  /-- `CMP Y,$aaaa`, opcode 0x5E, R211. -/
  | cmpYAbs (a : Addr)
  -- 16-bit arithmetic (42_arith16.md)
  /-- `ADDW YA,$dp`, opcode 0x7A, R213. -/
  | addw (d : Byte)
  /-- `SUBW YA,$dp`, opcode 0x9A, R214. -/
  | subw (d : Byte)
  /-- `MUL YA`, opcode 0xCF, R215. -/
  | mul
  /-- `DIV YA,X`, opcode 0x9E, R216. -/
  | div
  /-- `CMPW YA,$dp`, opcode 0x5A, R217. -/
  | cmpw (d : Byte)
  -- Shifts and rotates (43_shift_rotate.md)
  /-- `ASL A`, opcode 0x1C, R219. -/
  | aslA
  /-- `ASL $dp`, opcode 0x0B, R220. -/
  | aslDp (d : Byte)
  /-- `ASL $dp+X`, opcode 0x1B, R221. -/
  | aslDpX (d : Byte)
  /-- `ASL $aaaa`, opcode 0x0C, R222. -/
  | aslAbs (a : Addr)
  /-- `LSR A`, opcode 0x5C, R223. -/
  | lsrA
  /-- `LSR $dp`, opcode 0x4B, R224. -/
  | lsrDp (d : Byte)
  /-- `LSR $dp+X`, opcode 0x5B, R225. -/
  | lsrDpX (d : Byte)
  /-- `LSR $aaaa`, opcode 0x4C, R226. -/
  | lsrAbs (a : Addr)
  /-- `ROL A`, opcode 0x3C, R227. -/
  | rolA
  /-- `ROL $dp`, opcode 0x2B, R228. -/
  | rolDp (d : Byte)
  /-- `ROL $dp+X`, opcode 0x3B, R229. -/
  | rolDpX (d : Byte)
  /-- `ROL $aaaa`, opcode 0x2C, R230. -/
  | rolAbs (a : Addr)
  /-- `ROR A`, opcode 0x7C, R231. -/
  | rorA
  /-- `ROR $dp`, opcode 0x6B, R232. -/
  | rorDp (d : Byte)
  /-- `ROR $dp+X`, opcode 0x7B, R233. -/
  | rorDpX (d : Byte)
  /-- `ROR $aaaa`, opcode 0x6C, R234. -/
  | rorAbs (a : Addr)
  -- Bit operations (44_bit_ops.md)
  /-- `SET1 $dp.b`, opcode 0x02 + 32 b, R236. -/
  | set1 (b : BitVec 3) (d : Byte)
  /-- `CLR1 $dp.b`, opcode 0x12 + 32 b, R237. -/
  | clr1 (b : BitVec 3) (d : Byte)
  /-- `BBS $dp.b,$rel`, opcode 0x03 + 32 b, R238. -/
  | bbs (b : BitVec 3) (d : Byte) (r : Byte)
  /-- `BBC $dp.b,$rel`, opcode 0x13 + 32 b, R239. -/
  | bbc (b : BitVec 3) (d : Byte) (r : Byte)
  /-- `TSET1 $aaaa`, opcode 0x0E, R240. -/
  | tset1 (a : Addr)
  /-- `TCLR1 $aaaa`, opcode 0x4E, R241. -/
  | tclr1 (a : Addr)
  /-- `OR1 C,$mmmm.b`, opcode 0x0A, R242. -/
  | or1 (m : Addr) (b : BitVec 3)
  /-- `OR1 C,/$mmmm.b`, opcode 0x2A, R243. -/
  | or1Not (m : Addr) (b : BitVec 3)
  /-- `AND1 C,$mmmm.b`, opcode 0x4A, R244. -/
  | and1 (m : Addr) (b : BitVec 3)
  /-- `AND1 C,/$mmmm.b`, opcode 0x6A, R245. -/
  | and1Not (m : Addr) (b : BitVec 3)
  /-- `EOR1 C,$mmmm.b`, opcode 0x8A, R246. -/
  | eor1 (m : Addr) (b : BitVec 3)
  /-- `MOV1 C,$mmmm.b`, opcode 0xAA, R247. -/
  | mov1CMem (m : Addr) (b : BitVec 3)
  /-- `MOV1 $mmmm.b,C`, opcode 0xCA, R248. -/
  | mov1MemC (m : Addr) (b : BitVec 3)
  /-- `NOT1 $mmmm.b`, opcode 0xEA, R249. -/
  | not1 (m : Addr) (b : BitVec 3)
  -- Branches (45_branches.md)
  /-- `BPL $rel`, opcode 0x10, R251. -/
  | bpl (r : Byte)
  /-- `BMI $rel`, opcode 0x30, R252. -/
  | bmi (r : Byte)
  /-- `BVC $rel`, opcode 0x50, R253. -/
  | bvc (r : Byte)
  /-- `BVS $rel`, opcode 0x70, R254. -/
  | bvs (r : Byte)
  /-- `BCC $rel`, opcode 0x90, R255. -/
  | bcc (r : Byte)
  /-- `BCS $rel`, opcode 0xB0, R256. -/
  | bcs (r : Byte)
  /-- `BNE $rel`, opcode 0xD0, R257. -/
  | bne (r : Byte)
  /-- `BEQ $rel`, opcode 0xF0, R258. -/
  | beq (r : Byte)
  /-- `BRA $rel`, opcode 0x2F, R259. -/
  | bra (r : Byte)
  -- Control flow (46_control_flow.md)
  /-- `CALL $aaaa`, opcode 0x3F, R261. -/
  | call (a : Addr)
  /-- `RET`, opcode 0x6F, R262. -/
  | ret
  /-- `JMP $aaaa`, opcode 0x5F, R263. -/
  | jmpAbs (a : Addr)
  /-- `JMP [$aaaa+X]`, opcode 0x1F, R264. -/
  | jmpIdxInd (a : Addr)
  /-- `DBNZ Y,$rel`, opcode 0xFE, R265. -/
  | dbnzY (r : Byte)
  /-- `DBNZ $dp,$rel`, opcode 0x6E, R266. -/
  | dbnzDp (d : Byte) (r : Byte)
  /-- `CBNE $dp,$rel`, opcode 0x2E, R267. -/
  | cbneDp (d : Byte) (r : Byte)
  /-- `CBNE $dp+X,$rel`, opcode 0xDE, R268. -/
  | cbneDpX (d : Byte) (r : Byte)
  /-- `TCALL n`, opcode 0x01 + 16 n, R269. -/
  | tcall (n : BitVec 4)
  /-- `PCALL $up`, opcode 0x4F, R270. -/
  | pcall (u : Byte)
  /-- `RETI`, opcode 0x7F, R271. -/
  | reti
  -- Flags and system (47_flags_misc.md)
  /-- `CLRP`, opcode 0x20, R273. -/
  | clrp
  /-- `SETP`, opcode 0x40, R274. -/
  | setp
  /-- `CLRC`, opcode 0x60, R275. -/
  | clrc
  /-- `SETC`, opcode 0x80, R276. -/
  | setc
  /-- `NOTC`, opcode 0xED, R277. -/
  | notc
  /-- `CLRV`, opcode 0xE0, R278. -/
  | clrv
  /-- `EI`, opcode 0xA0, R279. -/
  | ei
  /-- `DI`, opcode 0xC0, R280. -/
  | di
  /-- `NOP`, opcode 0x00, R281. -/
  | nop
  /-- `SLEEP`, opcode 0xEF, R282. -/
  | sleep
  /-- `STOP`, opcode 0xFF, R283. -/
  | stop
  /-- `BRK`, opcode 0x0F, R284. -/
  | brk
  /-- `DAA A`, opcode 0xDF, R285. -/
  | daa
  /-- `DAS A`, opcode 0xBE, R286. -/
  | das
  -- Increment and decrement (48_inc_dec.md)
  /-- `INC A`, opcode 0xBC, R288. -/
  | incA
  /-- `INC X`, opcode 0x3D, R289. -/
  | incX
  /-- `INC Y`, opcode 0xFC, R290. -/
  | incY
  /-- `INC $dp`, opcode 0xAB, R291. -/
  | incDp (d : Byte)
  /-- `INC $dp+X`, opcode 0xBB, R292. -/
  | incDpX (d : Byte)
  /-- `INC $aaaa`, opcode 0xAC, R293. -/
  | incAbs (a : Addr)
  /-- `DEC A`, opcode 0x9C, R294. -/
  | decA
  /-- `DEC X`, opcode 0x1D, R295. -/
  | decX
  /-- `DEC Y`, opcode 0xDC, R296. -/
  | decY
  /-- `DEC $dp`, opcode 0x8B, R297. -/
  | decDp (d : Byte)
  /-- `DEC $dp+X`, opcode 0x9B, R298. -/
  | decDpX (d : Byte)
  /-- `DEC $aaaa`, opcode 0x8C, R299. -/
  | decAbs (a : Addr)
  /-- `INCW $dp`, opcode 0x3A, R300. -/
  | incw (d : Byte)
  /-- `DECW $dp`, opcode 0x1A, R301. -/
  | decw (d : Byte)
  deriving DecidableEq, Repr

end Sys2Proof
end

