-- ==== Sys2Proof/WellFormed.lean ====
section
/-! DEFINITION. Which terms of the syntax are instructions. Every value of every operand byte is legal (30_encoding.md R72);
the one check is that a memory-bit address fits its 13-bit field (20_memory.md R56; 44_bit_ops.md R242 "Only addresses
0x0000 to 0x1FFF can be reached"). -/

namespace Sys2Proof

/-- The check: the address of a memory-bit form (OR1, AND1, EOR1, MOV1, NOT1) is below 0x2000 (R56). -/
def Instr.wellFormed : Instr → Bool
  | .or1 m _ => decide (m.toNat < 0x2000)
  | .or1Not m _ => decide (m.toNat < 0x2000)
  | .and1 m _ => decide (m.toNat < 0x2000)
  | .and1Not m _ => decide (m.toNat < 0x2000)
  | .eor1 m _ => decide (m.toNat < 0x2000)
  | .mov1CMem m _ => decide (m.toNat < 0x2000)
  | .mov1MemC m _ => decide (m.toNat < 0x2000)
  | .not1 m _ => decide (m.toNat < 0x2000)
  | .movAImm _ | .movAIndX | .movAIndXInc | .movADp _ | .movADpX _ | .movAAbs _ | .movAAbsX _ | .movAAbsY _
  | .movAIdxInd _ | .movAIndIdx _ | .movXImm _ | .movXDp _ | .movXDpY _ | .movXAbs _ | .movYImm _ | .movYDp _
  | .movYDpX _ | .movYAbs _ | .movIndXA | .movIndXIncA | .movDpA _ | .movDpXA _ | .movAbsA _ | .movAbsXA _
  | .movAbsYA _ | .movIdxIndA _ | .movIndIdxA _ | .movDpX _ | .movDpYX _ | .movAbsX _ | .movDpY _ | .movDpXY _
  | .movAbsY _ | .movAX | .movAY | .movXA | .movYA | .movXSp | .movSpX | .movDpDp _ _ | .movDpImm _ _
  | .movwYADp _ | .movwDpYA _ | .xcn | .pushA | .pushX | .pushY | .pushPsw | .popA | .popX | .popY | .popPsw
  | .orAImm _ | .orAIndX | .orADp _ | .orADpX _ | .orAAbs _ | .orAAbsX _ | .orAAbsY _ | .orAIdxInd _
  | .orAIndIdx _ | .orIndXIndY | .orDpDp _ _ | .orDpImm _ _ | .andAImm _ | .andAIndX | .andADp _ | .andADpX _
  | .andAAbs _ | .andAAbsX _ | .andAAbsY _ | .andAIdxInd _ | .andAIndIdx _ | .andIndXIndY | .andDpDp _ _
  | .andDpImm _ _ | .eorAImm _ | .eorAIndX | .eorADp _ | .eorADpX _ | .eorAAbs _ | .eorAAbsX _ | .eorAAbsY _
  | .eorAIdxInd _ | .eorAIndIdx _ | .eorIndXIndY | .eorDpDp _ _ | .eorDpImm _ _ | .cmpAImm _ | .cmpAIndX
  | .cmpADp _ | .cmpADpX _ | .cmpAAbs _ | .cmpAAbsX _ | .cmpAAbsY _ | .cmpAIdxInd _ | .cmpAIndIdx _
  | .cmpIndXIndY | .cmpDpDp _ _ | .cmpDpImm _ _ | .adcAImm _ | .adcAIndX | .adcADp _ | .adcADpX _ | .adcAAbs _
  | .adcAAbsX _ | .adcAAbsY _ | .adcAIdxInd _ | .adcAIndIdx _ | .adcIndXIndY | .adcDpDp _ _ | .adcDpImm _ _
  | .sbcAImm _ | .sbcAIndX | .sbcADp _ | .sbcADpX _ | .sbcAAbs _ | .sbcAAbsX _ | .sbcAAbsY _ | .sbcAIdxInd _
  | .sbcAIndIdx _ | .sbcIndXIndY | .sbcDpDp _ _ | .sbcDpImm _ _ | .cmpXImm _ | .cmpXDp _ | .cmpXAbs _
  | .cmpYImm _ | .cmpYDp _ | .cmpYAbs _ | .addw _ | .subw _ | .mul | .div | .cmpw _ | .aslA | .aslDp _
  | .aslDpX _ | .aslAbs _ | .lsrA | .lsrDp _ | .lsrDpX _ | .lsrAbs _ | .rolA | .rolDp _ | .rolDpX _ | .rolAbs _
  | .rorA | .rorDp _ | .rorDpX _ | .rorAbs _ | .set1 _ _ | .clr1 _ _ | .bbs _ _ _ | .bbc _ _ _ | .tset1 _
  | .tclr1 _ | .bpl _ | .bmi _ | .bvc _ | .bvs _ | .bcc _ | .bcs _ | .bne _ | .beq _ | .bra _ | .call _ | .ret
  | .jmpAbs _ | .jmpIdxInd _ | .dbnzY _ | .dbnzDp _ _ | .cbneDp _ _ | .cbneDpX _ _ | .tcall _ | .pcall _
  | .reti | .clrp | .setp | .clrc | .setc | .notc | .clrv | .ei | .di | .nop | .sleep | .stop | .brk | .daa
  | .das | .incA | .incX | .incY | .incDp _ | .incDpX _ | .incAbs _ | .decA | .decX | .decY | .decDp _
  | .decDpX _ | .decAbs _ | .incw _ | .decw _ => true

/-- A well-formed instruction. -/
abbrev Instr.WellFormed (i : Instr) : Prop := i.wellFormed = true

end Sys2Proof
end

