-- ==== Sys2Proof/Decode.lean ====
section
/-! DEFINITION. Decoding and encoding (30_encoding.md R65 to R73). `decodeOp` is total on any three bytes, column by column
of the map of R70; `decode` reads a list of bytes and rejects by name a list that ends inside an instruction. -/

namespace Sys2Proof

/-- `hi * 256 + lo` (00_scope.md R9; 30_encoding.md R67). -/
def wordOf (hi lo : Byte) : Addr := hi ++ lo

/-- The low byte of a word, `w[7:0]`. -/
def loByte (w : Addr) : Byte := w.extractLsb' 0 8

/-- The high byte of a word, `w[15:8]`. -/
def hiByte (w : Addr) : Byte := w.extractLsb' 8 8

/-- The address field of a memory-bit operand word: `m = a[12:0]` (20_memory.md R56, 30_encoding.md R67). -/
def memBitAddr (w : Addr) : Addr := (w.extractLsb' 0 13).setWidth 16

/-- The bit-number field of a memory-bit operand word: `b = a[15:13]` (R56, R67). -/
def memBitIndex (w : Addr) : BitVec 3 := w.extractLsb' 13 3

/-- The operand word of a memory-bit form: bits 15:13 the bit number, bits 12:0 the address (R56). -/
def memBitWord (m : Addr) (b : BitVec 3) : Addr := b ++ m.extractLsb' 0 13

/-- The ten formats (R66). -/
inductive Format where
  | imp | imm | dp | rel | up | abs | dprel | dpdp | immdp | membit
  deriving DecidableEq, Repr

/-- The length in bytes of each format, the opcode byte counted (R66). -/
def Format.length : Format → Nat
  | .imp => 1
  | .imm | .dp | .rel | .up => 2
  | .abs | .dprel | .dpdp | .immdp | .membit => 3

/-- Column x0 of R70. -/
def decodeCol0 (hi : BitVec 4) (b1 : Byte) : Instr :=
  match hi with
  | 0x0#4 => .nop
  | 0x1#4 => .bpl b1
  | 0x2#4 => .clrp
  | 0x3#4 => .bmi b1
  | 0x4#4 => .setp
  | 0x5#4 => .bvc b1
  | 0x6#4 => .clrc
  | 0x7#4 => .bvs b1
  | 0x8#4 => .setc
  | 0x9#4 => .bcc b1
  | 0xA#4 => .ei
  | 0xB#4 => .bcs b1
  | 0xC#4 => .di
  | 0xD#4 => .bne b1
  | 0xE#4 => .clrv
  | _ => .beq b1 -- row Fx, the one value left

/-- Column x1 of R70: TCALL n, `n = op[7:4]` (R68). -/
def decodeCol1 (hi : BitVec 4) : Instr := .tcall hi

/-- Column x2 of R70: SET1 in the even rows, CLR1 in the odd ones, `b = op[7:5]` (R68). -/
def decodeCol2 (hi : BitVec 4) (b1 : Byte) : Instr :=
  if hi.getLsbD 0 then .clr1 (hi.extractLsb' 1 3) b1 else .set1 (hi.extractLsb' 1 3) b1

/-- Column x3 of R70: BBS in the even rows, BBC in the odd ones, `b = op[7:5]` (R68); byte 1 the offset, byte 2 the
displacement (R66). -/
def decodeCol3 (hi : BitVec 4) (b1 b2 : Byte) : Instr :=
  if hi.getLsbD 0 then .bbc (hi.extractLsb' 1 3) b1 b2 else .bbs (hi.extractLsb' 1 3) b1 b2

/-- Column x4 of R70. -/
def decodeCol4 (hi : BitVec 4) (b1 : Byte) : Instr :=
  match hi with
  | 0x0#4 => .orADp b1
  | 0x1#4 => .orADpX b1
  | 0x2#4 => .andADp b1
  | 0x3#4 => .andADpX b1
  | 0x4#4 => .eorADp b1
  | 0x5#4 => .eorADpX b1
  | 0x6#4 => .cmpADp b1
  | 0x7#4 => .cmpADpX b1
  | 0x8#4 => .adcADp b1
  | 0x9#4 => .adcADpX b1
  | 0xA#4 => .sbcADp b1
  | 0xB#4 => .sbcADpX b1
  | 0xC#4 => .movDpA b1
  | 0xD#4 => .movDpXA b1
  | 0xE#4 => .movADp b1
  | _ => .movADpX b1 -- row Fx, the one value left

/-- Column x5 of R70. -/
def decodeCol5 (hi : BitVec 4) (b1 b2 : Byte) : Instr :=
  match hi with
  | 0x0#4 => .orAAbs (wordOf b2 b1)
  | 0x1#4 => .orAAbsX (wordOf b2 b1)
  | 0x2#4 => .andAAbs (wordOf b2 b1)
  | 0x3#4 => .andAAbsX (wordOf b2 b1)
  | 0x4#4 => .eorAAbs (wordOf b2 b1)
  | 0x5#4 => .eorAAbsX (wordOf b2 b1)
  | 0x6#4 => .cmpAAbs (wordOf b2 b1)
  | 0x7#4 => .cmpAAbsX (wordOf b2 b1)
  | 0x8#4 => .adcAAbs (wordOf b2 b1)
  | 0x9#4 => .adcAAbsX (wordOf b2 b1)
  | 0xA#4 => .sbcAAbs (wordOf b2 b1)
  | 0xB#4 => .sbcAAbsX (wordOf b2 b1)
  | 0xC#4 => .movAbsA (wordOf b2 b1)
  | 0xD#4 => .movAbsXA (wordOf b2 b1)
  | 0xE#4 => .movAAbs (wordOf b2 b1)
  | _ => .movAAbsX (wordOf b2 b1) -- row Fx, the one value left

/-- Column x6 of R70. -/
def decodeCol6 (hi : BitVec 4) (b1 b2 : Byte) : Instr :=
  match hi with
  | 0x0#4 => .orAIndX
  | 0x1#4 => .orAAbsY (wordOf b2 b1)
  | 0x2#4 => .andAIndX
  | 0x3#4 => .andAAbsY (wordOf b2 b1)
  | 0x4#4 => .eorAIndX
  | 0x5#4 => .eorAAbsY (wordOf b2 b1)
  | 0x6#4 => .cmpAIndX
  | 0x7#4 => .cmpAAbsY (wordOf b2 b1)
  | 0x8#4 => .adcAIndX
  | 0x9#4 => .adcAAbsY (wordOf b2 b1)
  | 0xA#4 => .sbcAIndX
  | 0xB#4 => .sbcAAbsY (wordOf b2 b1)
  | 0xC#4 => .movIndXA
  | 0xD#4 => .movAbsYA (wordOf b2 b1)
  | 0xE#4 => .movAIndX
  | _ => .movAAbsY (wordOf b2 b1) -- row Fx, the one value left

/-- Column x7 of R70. -/
def decodeCol7 (hi : BitVec 4) (b1 : Byte) : Instr :=
  match hi with
  | 0x0#4 => .orAIdxInd b1
  | 0x1#4 => .orAIndIdx b1
  | 0x2#4 => .andAIdxInd b1
  | 0x3#4 => .andAIndIdx b1
  | 0x4#4 => .eorAIdxInd b1
  | 0x5#4 => .eorAIndIdx b1
  | 0x6#4 => .cmpAIdxInd b1
  | 0x7#4 => .cmpAIndIdx b1
  | 0x8#4 => .adcAIdxInd b1
  | 0x9#4 => .adcAIndIdx b1
  | 0xA#4 => .sbcAIdxInd b1
  | 0xB#4 => .sbcAIndIdx b1
  | 0xC#4 => .movIdxIndA b1
  | 0xD#4 => .movIndIdxA b1
  | 0xE#4 => .movAIdxInd b1
  | _ => .movAIndIdx b1 -- row Fx, the one value left

/-- Column x8 of R70. -/
def decodeCol8 (hi : BitVec 4) (b1 b2 : Byte) : Instr :=
  match hi with
  | 0x0#4 => .orAImm b1
  | 0x1#4 => .orDpImm b1 b2
  | 0x2#4 => .andAImm b1
  | 0x3#4 => .andDpImm b1 b2
  | 0x4#4 => .eorAImm b1
  | 0x5#4 => .eorDpImm b1 b2
  | 0x6#4 => .cmpAImm b1
  | 0x7#4 => .cmpDpImm b1 b2
  | 0x8#4 => .adcAImm b1
  | 0x9#4 => .adcDpImm b1 b2
  | 0xA#4 => .sbcAImm b1
  | 0xB#4 => .sbcDpImm b1 b2
  | 0xC#4 => .cmpXImm b1
  | 0xD#4 => .movDpX b1
  | 0xE#4 => .movAImm b1
  | _ => .movXDp b1 -- row Fx, the one value left

/-- Column x9 of R70. -/
def decodeCol9 (hi : BitVec 4) (b1 b2 : Byte) : Instr :=
  match hi with
  | 0x0#4 => .orDpDp b1 b2
  | 0x1#4 => .orIndXIndY
  | 0x2#4 => .andDpDp b1 b2
  | 0x3#4 => .andIndXIndY
  | 0x4#4 => .eorDpDp b1 b2
  | 0x5#4 => .eorIndXIndY
  | 0x6#4 => .cmpDpDp b1 b2
  | 0x7#4 => .cmpIndXIndY
  | 0x8#4 => .adcDpDp b1 b2
  | 0x9#4 => .adcIndXIndY
  | 0xA#4 => .sbcDpDp b1 b2
  | 0xB#4 => .sbcIndXIndY
  | 0xC#4 => .movAbsX (wordOf b2 b1)
  | 0xD#4 => .movDpYX b1
  | 0xE#4 => .movXAbs (wordOf b2 b1)
  | _ => .movXDpY b1 -- row Fx, the one value left

/-- Column xA of R70. -/
def decodeColA (hi : BitVec 4) (b1 b2 : Byte) : Instr :=
  match hi with
  | 0x0#4 => .or1 (memBitAddr (wordOf b2 b1)) (memBitIndex (wordOf b2 b1))
  | 0x1#4 => .decw b1
  | 0x2#4 => .or1Not (memBitAddr (wordOf b2 b1)) (memBitIndex (wordOf b2 b1))
  | 0x3#4 => .incw b1
  | 0x4#4 => .and1 (memBitAddr (wordOf b2 b1)) (memBitIndex (wordOf b2 b1))
  | 0x5#4 => .cmpw b1
  | 0x6#4 => .and1Not (memBitAddr (wordOf b2 b1)) (memBitIndex (wordOf b2 b1))
  | 0x7#4 => .addw b1
  | 0x8#4 => .eor1 (memBitAddr (wordOf b2 b1)) (memBitIndex (wordOf b2 b1))
  | 0x9#4 => .subw b1
  | 0xA#4 => .mov1CMem (memBitAddr (wordOf b2 b1)) (memBitIndex (wordOf b2 b1))
  | 0xB#4 => .movwYADp b1
  | 0xC#4 => .mov1MemC (memBitAddr (wordOf b2 b1)) (memBitIndex (wordOf b2 b1))
  | 0xD#4 => .movwDpYA b1
  | 0xE#4 => .not1 (memBitAddr (wordOf b2 b1)) (memBitIndex (wordOf b2 b1))
  | _ => .movDpDp b1 b2 -- row Fx, the one value left

/-- Column xB of R70. -/
def decodeColB (hi : BitVec 4) (b1 : Byte) : Instr :=
  match hi with
  | 0x0#4 => .aslDp b1
  | 0x1#4 => .aslDpX b1
  | 0x2#4 => .rolDp b1
  | 0x3#4 => .rolDpX b1
  | 0x4#4 => .lsrDp b1
  | 0x5#4 => .lsrDpX b1
  | 0x6#4 => .rorDp b1
  | 0x7#4 => .rorDpX b1
  | 0x8#4 => .decDp b1
  | 0x9#4 => .decDpX b1
  | 0xA#4 => .incDp b1
  | 0xB#4 => .incDpX b1
  | 0xC#4 => .movDpY b1
  | 0xD#4 => .movDpXY b1
  | 0xE#4 => .movYDp b1
  | _ => .movYDpX b1 -- row Fx, the one value left

/-- Column xC of R70. -/
def decodeColC (hi : BitVec 4) (b1 b2 : Byte) : Instr :=
  match hi with
  | 0x0#4 => .aslAbs (wordOf b2 b1)
  | 0x1#4 => .aslA
  | 0x2#4 => .rolAbs (wordOf b2 b1)
  | 0x3#4 => .rolA
  | 0x4#4 => .lsrAbs (wordOf b2 b1)
  | 0x5#4 => .lsrA
  | 0x6#4 => .rorAbs (wordOf b2 b1)
  | 0x7#4 => .rorA
  | 0x8#4 => .decAbs (wordOf b2 b1)
  | 0x9#4 => .decA
  | 0xA#4 => .incAbs (wordOf b2 b1)
  | 0xB#4 => .incA
  | 0xC#4 => .movAbsY (wordOf b2 b1)
  | 0xD#4 => .decY
  | 0xE#4 => .movYAbs (wordOf b2 b1)
  | _ => .incY -- row Fx, the one value left

/-- Column xD of R70. -/
def decodeColD (hi : BitVec 4) (b1 : Byte) : Instr :=
  match hi with
  | 0x0#4 => .pushPsw
  | 0x1#4 => .decX
  | 0x2#4 => .pushA
  | 0x3#4 => .incX
  | 0x4#4 => .pushX
  | 0x5#4 => .movXA
  | 0x6#4 => .pushY
  | 0x7#4 => .movAX
  | 0x8#4 => .movYImm b1
  | 0x9#4 => .movXSp
  | 0xA#4 => .cmpYImm b1
  | 0xB#4 => .movSpX
  | 0xC#4 => .movXImm b1
  | 0xD#4 => .movAY
  | 0xE#4 => .notc
  | _ => .movYA -- row Fx, the one value left

/-- Column xE of R70. -/
def decodeColE (hi : BitVec 4) (b1 b2 : Byte) : Instr :=
  match hi with
  | 0x0#4 => .tset1 (wordOf b2 b1)
  | 0x1#4 => .cmpXAbs (wordOf b2 b1)
  | 0x2#4 => .cbneDp b1 b2
  | 0x3#4 => .cmpXDp b1
  | 0x4#4 => .tclr1 (wordOf b2 b1)
  | 0x5#4 => .cmpYAbs (wordOf b2 b1)
  | 0x6#4 => .dbnzDp b1 b2
  | 0x7#4 => .cmpYDp b1
  | 0x8#4 => .popPsw
  | 0x9#4 => .div
  | 0xA#4 => .popA
  | 0xB#4 => .das
  | 0xC#4 => .popX
  | 0xD#4 => .cbneDpX b1 b2
  | 0xE#4 => .popY
  | _ => .dbnzY b1 -- row Fx, the one value left

/-- Column xF of R70. -/
def decodeColF (hi : BitVec 4) (b1 b2 : Byte) : Instr :=
  match hi with
  | 0x0#4 => .brk
  | 0x1#4 => .jmpIdxInd (wordOf b2 b1)
  | 0x2#4 => .bra b1
  | 0x3#4 => .call (wordOf b2 b1)
  | 0x4#4 => .pcall b1
  | 0x5#4 => .jmpAbs (wordOf b2 b1)
  | 0x6#4 => .ret
  | 0x7#4 => .reti
  | 0x8#4 => .movDpImm b1 b2
  | 0x9#4 => .xcn
  | 0xA#4 => .movIndXIncA
  | 0xB#4 => .movAIndXInc
  | 0xC#4 => .mul
  | 0xD#4 => .daa
  | 0xE#4 => .sleep
  | _ => .stop -- row Fx, the one value left

/-- The instruction of an opcode byte and the two bytes after it, whatever they are (R70, R72: the map has no hole). Bytes
that the instruction's format does not have are not looked at. -/
def decodeOp (op b1 b2 : Byte) : Instr :=
  let hi : BitVec 4 := op.extractLsb' 4 4
  match (op.extractLsb' 0 4 : BitVec 4) with
  | 0x0#4 => decodeCol0 hi b1
  | 0x1#4 => decodeCol1 hi
  | 0x2#4 => decodeCol2 hi b1
  | 0x3#4 => decodeCol3 hi b1 b2
  | 0x4#4 => decodeCol4 hi b1
  | 0x5#4 => decodeCol5 hi b1 b2
  | 0x6#4 => decodeCol6 hi b1 b2
  | 0x7#4 => decodeCol7 hi b1
  | 0x8#4 => decodeCol8 hi b1 b2
  | 0x9#4 => decodeCol9 hi b1 b2
  | 0xA#4 => decodeColA hi b1 b2
  | 0xB#4 => decodeColB hi b1
  | 0xC#4 => decodeColC hi b1 b2
  | 0xD#4 => decodeColD hi b1
  | 0xE#4 => decodeColE hi b1 b2
  | _ => decodeColF hi b1 b2 -- column xF, the one value left

/-- The format of each instruction (R66, R71). -/
def Instr.format : Instr → Format
  | .movAIndX | .movAIndXInc | .movIndXA | .movIndXIncA | .movAX | .movAY | .movXA | .movYA | .movXSp | .movSpX
  | .xcn | .pushA | .pushX | .pushY | .pushPsw | .popA | .popX | .popY | .popPsw | .orAIndX | .orIndXIndY
  | .andAIndX | .andIndXIndY | .eorAIndX | .eorIndXIndY | .cmpAIndX | .cmpIndXIndY | .adcAIndX | .adcIndXIndY
  | .sbcAIndX | .sbcIndXIndY | .mul | .div | .aslA | .lsrA | .rolA | .rorA | .ret | .tcall _ | .reti | .clrp
  | .setp | .clrc | .setc | .notc | .clrv | .ei | .di | .nop | .sleep | .stop | .brk | .daa | .das | .incA
  | .incX | .incY | .decA | .decX | .decY => .imp
  | .movAImm _ | .movXImm _ | .movYImm _ | .orAImm _ | .andAImm _ | .eorAImm _ | .cmpAImm _ | .adcAImm _
  | .sbcAImm _ | .cmpXImm _ | .cmpYImm _ => .imm
  | .movADp _ | .movADpX _ | .movAIdxInd _ | .movAIndIdx _ | .movXDp _ | .movXDpY _ | .movYDp _ | .movYDpX _
  | .movDpA _ | .movDpXA _ | .movIdxIndA _ | .movIndIdxA _ | .movDpX _ | .movDpYX _ | .movDpY _ | .movDpXY _
  | .movwYADp _ | .movwDpYA _ | .orADp _ | .orADpX _ | .orAIdxInd _ | .orAIndIdx _ | .andADp _ | .andADpX _
  | .andAIdxInd _ | .andAIndIdx _ | .eorADp _ | .eorADpX _ | .eorAIdxInd _ | .eorAIndIdx _ | .cmpADp _
  | .cmpADpX _ | .cmpAIdxInd _ | .cmpAIndIdx _ | .adcADp _ | .adcADpX _ | .adcAIdxInd _ | .adcAIndIdx _
  | .sbcADp _ | .sbcADpX _ | .sbcAIdxInd _ | .sbcAIndIdx _ | .cmpXDp _ | .cmpYDp _ | .addw _ | .subw _
  | .cmpw _ | .aslDp _ | .aslDpX _ | .lsrDp _ | .lsrDpX _ | .rolDp _ | .rolDpX _ | .rorDp _ | .rorDpX _
  | .set1 _ _ | .clr1 _ _ | .incDp _ | .incDpX _ | .decDp _ | .decDpX _ | .incw _ | .decw _ => .dp
  | .bpl _ | .bmi _ | .bvc _ | .bvs _ | .bcc _ | .bcs _ | .bne _ | .beq _ | .bra _ | .dbnzY _ => .rel
  | .pcall _ => .up
  | .movAAbs _ | .movAAbsX _ | .movAAbsY _ | .movXAbs _ | .movYAbs _ | .movAbsA _ | .movAbsXA _ | .movAbsYA _
  | .movAbsX _ | .movAbsY _ | .orAAbs _ | .orAAbsX _ | .orAAbsY _ | .andAAbs _ | .andAAbsX _ | .andAAbsY _
  | .eorAAbs _ | .eorAAbsX _ | .eorAAbsY _ | .cmpAAbs _ | .cmpAAbsX _ | .cmpAAbsY _ | .adcAAbs _ | .adcAAbsX _
  | .adcAAbsY _ | .sbcAAbs _ | .sbcAAbsX _ | .sbcAAbsY _ | .cmpXAbs _ | .cmpYAbs _ | .aslAbs _ | .lsrAbs _
  | .rolAbs _ | .rorAbs _ | .tset1 _ | .tclr1 _ | .call _ | .jmpAbs _ | .jmpIdxInd _ | .incAbs _ | .decAbs _ => .abs
  | .bbs _ _ _ | .bbc _ _ _ | .dbnzDp _ _ | .cbneDp _ _ | .cbneDpX _ _ => .dprel
  | .movDpDp _ _ | .orDpDp _ _ | .andDpDp _ _ | .eorDpDp _ _ | .cmpDpDp _ _ | .adcDpDp _ _ | .sbcDpDp _ _ => .dpdp
  | .movDpImm _ _ | .orDpImm _ _ | .andDpImm _ _ | .eorDpImm _ _ | .cmpDpImm _ _ | .adcDpImm _ _
  | .sbcDpImm _ _ => .immdp
  | .or1 _ _ | .or1Not _ _ | .and1 _ _ | .and1Not _ _ | .eor1 _ _ | .mov1CMem _ _ | .mov1MemC _ _ | .not1 _ _ => .membit

/-- The length of an instruction in bytes (R65). -/
def Instr.length (i : Instr) : Nat := i.format.length

/-- The length an opcode byte announces: it depends on the opcode byte alone (R65). -/
def lengthOf (op : Byte) : Nat := (decodeOp op 0 0).length

/-- Why a list of bytes holds no instruction. -/
inductive DecodeError where
  /-- There is no byte at all. -/
  | empty
  /-- The list ends before the last operand byte of the instruction this opcode byte begins (R65). -/
  | truncated (op : Byte)
  deriving DecidableEq, Repr

/-- Decode the instruction at the head of a list of bytes; the rest of the list comes back with it (R65, R66). -/
def decode : List Byte → Except DecodeError (Instr × List Byte)
  | [] => .error .empty
  | op :: rest =>
    match lengthOf op, rest with
    | 1, rest => .ok (decodeOp op 0 0, rest)
    | 2, b1 :: rest => .ok (decodeOp op b1 0, rest)
    | 3, b1 :: b2 :: rest => .ok (decodeOp op b1 b2, rest)
    | _, _ => .error (.truncated op)

/-- The unknown set of R73: the tier E opcode bytes, unknown while EXT_OPCODES is false (R72). -/
def isTierE (op : Byte) : Bool :=
  op.extractLsb' 0 4 == (0x1#4 : BitVec 4) ||
  op == 0x4F || op == 0x7F || op == 0x5A || op == 0xDF || op == 0xBE || op == 0x0A || op == 0x2A || op == 0x4A ||
  op == 0x6A || op == 0x8A || op == 0xEA || op == 0xAA || op == 0xCA

/-- The opcode byte of each instruction (R70; the numbers inside it R68). -/
def Instr.opcode : Instr → Byte
  | .movAImm _ => 0xE8
  | .movAIndX => 0xE6
  | .movAIndXInc => 0xBF
  | .movADp _ => 0xE4
  | .movADpX _ => 0xF4
  | .movAAbs _ => 0xE5
  | .movAAbsX _ => 0xF5
  | .movAAbsY _ => 0xF6
  | .movAIdxInd _ => 0xE7
  | .movAIndIdx _ => 0xF7
  | .movXImm _ => 0xCD
  | .movXDp _ => 0xF8
  | .movXDpY _ => 0xF9
  | .movXAbs _ => 0xE9
  | .movYImm _ => 0x8D
  | .movYDp _ => 0xEB
  | .movYDpX _ => 0xFB
  | .movYAbs _ => 0xEC
  | .movIndXA => 0xC6
  | .movIndXIncA => 0xAF
  | .movDpA _ => 0xC4
  | .movDpXA _ => 0xD4
  | .movAbsA _ => 0xC5
  | .movAbsXA _ => 0xD5
  | .movAbsYA _ => 0xD6
  | .movIdxIndA _ => 0xC7
  | .movIndIdxA _ => 0xD7
  | .movDpX _ => 0xD8
  | .movDpYX _ => 0xD9
  | .movAbsX _ => 0xC9
  | .movDpY _ => 0xCB
  | .movDpXY _ => 0xDB
  | .movAbsY _ => 0xCC
  | .movAX => 0x7D
  | .movAY => 0xDD
  | .movXA => 0x5D
  | .movYA => 0xFD
  | .movXSp => 0x9D
  | .movSpX => 0xBD
  | .movDpDp _ _ => 0xFA
  | .movDpImm _ _ => 0x8F
  | .movwYADp _ => 0xBA
  | .movwDpYA _ => 0xDA
  | .xcn => 0x9F
  | .pushA => 0x2D
  | .pushX => 0x4D
  | .pushY => 0x6D
  | .pushPsw => 0x0D
  | .popA => 0xAE
  | .popX => 0xCE
  | .popY => 0xEE
  | .popPsw => 0x8E
  | .orAImm _ => 0x08
  | .orAIndX => 0x06
  | .orADp _ => 0x04
  | .orADpX _ => 0x14
  | .orAAbs _ => 0x05
  | .orAAbsX _ => 0x15
  | .orAAbsY _ => 0x16
  | .orAIdxInd _ => 0x07
  | .orAIndIdx _ => 0x17
  | .orIndXIndY => 0x19
  | .orDpDp _ _ => 0x09
  | .orDpImm _ _ => 0x18
  | .andAImm _ => 0x28
  | .andAIndX => 0x26
  | .andADp _ => 0x24
  | .andADpX _ => 0x34
  | .andAAbs _ => 0x25
  | .andAAbsX _ => 0x35
  | .andAAbsY _ => 0x36
  | .andAIdxInd _ => 0x27
  | .andAIndIdx _ => 0x37
  | .andIndXIndY => 0x39
  | .andDpDp _ _ => 0x29
  | .andDpImm _ _ => 0x38
  | .eorAImm _ => 0x48
  | .eorAIndX => 0x46
  | .eorADp _ => 0x44
  | .eorADpX _ => 0x54
  | .eorAAbs _ => 0x45
  | .eorAAbsX _ => 0x55
  | .eorAAbsY _ => 0x56
  | .eorAIdxInd _ => 0x47
  | .eorAIndIdx _ => 0x57
  | .eorIndXIndY => 0x59
  | .eorDpDp _ _ => 0x49
  | .eorDpImm _ _ => 0x58
  | .cmpAImm _ => 0x68
  | .cmpAIndX => 0x66
  | .cmpADp _ => 0x64
  | .cmpADpX _ => 0x74
  | .cmpAAbs _ => 0x65
  | .cmpAAbsX _ => 0x75
  | .cmpAAbsY _ => 0x76
  | .cmpAIdxInd _ => 0x67
  | .cmpAIndIdx _ => 0x77
  | .cmpIndXIndY => 0x79
  | .cmpDpDp _ _ => 0x69
  | .cmpDpImm _ _ => 0x78
  | .adcAImm _ => 0x88
  | .adcAIndX => 0x86
  | .adcADp _ => 0x84
  | .adcADpX _ => 0x94
  | .adcAAbs _ => 0x85
  | .adcAAbsX _ => 0x95
  | .adcAAbsY _ => 0x96
  | .adcAIdxInd _ => 0x87
  | .adcAIndIdx _ => 0x97
  | .adcIndXIndY => 0x99
  | .adcDpDp _ _ => 0x89
  | .adcDpImm _ _ => 0x98
  | .sbcAImm _ => 0xA8
  | .sbcAIndX => 0xA6
  | .sbcADp _ => 0xA4
  | .sbcADpX _ => 0xB4
  | .sbcAAbs _ => 0xA5
  | .sbcAAbsX _ => 0xB5
  | .sbcAAbsY _ => 0xB6
  | .sbcAIdxInd _ => 0xA7
  | .sbcAIndIdx _ => 0xB7
  | .sbcIndXIndY => 0xB9
  | .sbcDpDp _ _ => 0xA9
  | .sbcDpImm _ _ => 0xB8
  | .cmpXImm _ => 0xC8
  | .cmpXDp _ => 0x3E
  | .cmpXAbs _ => 0x1E
  | .cmpYImm _ => 0xAD
  | .cmpYDp _ => 0x7E
  | .cmpYAbs _ => 0x5E
  | .addw _ => 0x7A
  | .subw _ => 0x9A
  | .mul => 0xCF
  | .div => 0x9E
  | .cmpw _ => 0x5A
  | .aslA => 0x1C
  | .aslDp _ => 0x0B
  | .aslDpX _ => 0x1B
  | .aslAbs _ => 0x0C
  | .lsrA => 0x5C
  | .lsrDp _ => 0x4B
  | .lsrDpX _ => 0x5B
  | .lsrAbs _ => 0x4C
  | .rolA => 0x3C
  | .rolDp _ => 0x2B
  | .rolDpX _ => 0x3B
  | .rolAbs _ => 0x2C
  | .rorA => 0x7C
  | .rorDp _ => 0x6B
  | .rorDpX _ => 0x7B
  | .rorAbs _ => 0x6C
  | .set1 b _ => b ++ 0x02#5
  | .clr1 b _ => b ++ 0x12#5
  | .bbs b _ _ => b ++ 0x03#5
  | .bbc b _ _ => b ++ 0x13#5
  | .tset1 _ => 0x0E
  | .tclr1 _ => 0x4E
  | .or1 _ _ => 0x0A
  | .or1Not _ _ => 0x2A
  | .and1 _ _ => 0x4A
  | .and1Not _ _ => 0x6A
  | .eor1 _ _ => 0x8A
  | .mov1CMem _ _ => 0xAA
  | .mov1MemC _ _ => 0xCA
  | .not1 _ _ => 0xEA
  | .bpl _ => 0x10
  | .bmi _ => 0x30
  | .bvc _ => 0x50
  | .bvs _ => 0x70
  | .bcc _ => 0x90
  | .bcs _ => 0xB0
  | .bne _ => 0xD0
  | .beq _ => 0xF0
  | .bra _ => 0x2F
  | .call _ => 0x3F
  | .ret => 0x6F
  | .jmpAbs _ => 0x5F
  | .jmpIdxInd _ => 0x1F
  | .dbnzY _ => 0xFE
  | .dbnzDp _ _ => 0x6E
  | .cbneDp _ _ => 0x2E
  | .cbneDpX _ _ => 0xDE
  | .tcall n => n ++ 0x1#4
  | .pcall _ => 0x4F
  | .reti => 0x7F
  | .clrp => 0x20
  | .setp => 0x40
  | .clrc => 0x60
  | .setc => 0x80
  | .notc => 0xED
  | .clrv => 0xE0
  | .ei => 0xA0
  | .di => 0xC0
  | .nop => 0x00
  | .sleep => 0xEF
  | .stop => 0xFF
  | .brk => 0x0F
  | .daa => 0xDF
  | .das => 0xBE
  | .incA => 0xBC
  | .incX => 0x3D
  | .incY => 0xFC
  | .incDp _ => 0xAB
  | .incDpX _ => 0xBB
  | .incAbs _ => 0xAC
  | .decA => 0x9C
  | .decX => 0x1D
  | .decY => 0xDC
  | .decDp _ => 0x8B
  | .decDpX _ => 0x9B
  | .decAbs _ => 0x8C
  | .incw _ => 0x3A
  | .decw _ => 0x1A

/-- The operand bytes of each instruction, in the order of its format (R66). -/
def Instr.operands : Instr → List Byte
  | .movAIndX | .movAIndXInc | .movIndXA | .movIndXIncA | .movAX | .movAY | .movXA | .movYA | .movXSp | .movSpX
  | .xcn | .pushA | .pushX | .pushY | .pushPsw | .popA | .popX | .popY | .popPsw | .orAIndX | .orIndXIndY
  | .andAIndX | .andIndXIndY | .eorAIndX | .eorIndXIndY | .cmpAIndX | .cmpIndXIndY | .adcAIndX | .adcIndXIndY
  | .sbcAIndX | .sbcIndXIndY | .mul | .div | .aslA | .lsrA | .rolA | .rorA | .ret | .tcall _ | .reti | .clrp
  | .setp | .clrc | .setc | .notc | .clrv | .ei | .di | .nop | .sleep | .stop | .brk | .daa | .das | .incA
  | .incX | .incY | .decA | .decX | .decY => []
  | .movAImm i => [i]
  | .movADp d => [d]
  | .movADpX d => [d]
  | .movAAbs a => [loByte a, hiByte a]
  | .movAAbsX a => [loByte a, hiByte a]
  | .movAAbsY a => [loByte a, hiByte a]
  | .movAIdxInd d => [d]
  | .movAIndIdx d => [d]
  | .movXImm i => [i]
  | .movXDp d => [d]
  | .movXDpY d => [d]
  | .movXAbs a => [loByte a, hiByte a]
  | .movYImm i => [i]
  | .movYDp d => [d]
  | .movYDpX d => [d]
  | .movYAbs a => [loByte a, hiByte a]
  | .movDpA d => [d]
  | .movDpXA d => [d]
  | .movAbsA a => [loByte a, hiByte a]
  | .movAbsXA a => [loByte a, hiByte a]
  | .movAbsYA a => [loByte a, hiByte a]
  | .movIdxIndA d => [d]
  | .movIndIdxA d => [d]
  | .movDpX d => [d]
  | .movDpYX d => [d]
  | .movAbsX a => [loByte a, hiByte a]
  | .movDpY d => [d]
  | .movDpXY d => [d]
  | .movAbsY a => [loByte a, hiByte a]
  | .movDpDp ds dd => [ds, dd]
  | .movDpImm i d => [i, d]
  | .movwYADp d => [d]
  | .movwDpYA d => [d]
  | .orAImm i => [i]
  | .orADp d => [d]
  | .orADpX d => [d]
  | .orAAbs a => [loByte a, hiByte a]
  | .orAAbsX a => [loByte a, hiByte a]
  | .orAAbsY a => [loByte a, hiByte a]
  | .orAIdxInd d => [d]
  | .orAIndIdx d => [d]
  | .orDpDp ds dd => [ds, dd]
  | .orDpImm i d => [i, d]
  | .andAImm i => [i]
  | .andADp d => [d]
  | .andADpX d => [d]
  | .andAAbs a => [loByte a, hiByte a]
  | .andAAbsX a => [loByte a, hiByte a]
  | .andAAbsY a => [loByte a, hiByte a]
  | .andAIdxInd d => [d]
  | .andAIndIdx d => [d]
  | .andDpDp ds dd => [ds, dd]
  | .andDpImm i d => [i, d]
  | .eorAImm i => [i]
  | .eorADp d => [d]
  | .eorADpX d => [d]
  | .eorAAbs a => [loByte a, hiByte a]
  | .eorAAbsX a => [loByte a, hiByte a]
  | .eorAAbsY a => [loByte a, hiByte a]
  | .eorAIdxInd d => [d]
  | .eorAIndIdx d => [d]
  | .eorDpDp ds dd => [ds, dd]
  | .eorDpImm i d => [i, d]
  | .cmpAImm i => [i]
  | .cmpADp d => [d]
  | .cmpADpX d => [d]
  | .cmpAAbs a => [loByte a, hiByte a]
  | .cmpAAbsX a => [loByte a, hiByte a]
  | .cmpAAbsY a => [loByte a, hiByte a]
  | .cmpAIdxInd d => [d]
  | .cmpAIndIdx d => [d]
  | .cmpDpDp ds dd => [ds, dd]
  | .cmpDpImm i d => [i, d]
  | .adcAImm i => [i]
  | .adcADp d => [d]
  | .adcADpX d => [d]
  | .adcAAbs a => [loByte a, hiByte a]
  | .adcAAbsX a => [loByte a, hiByte a]
  | .adcAAbsY a => [loByte a, hiByte a]
  | .adcAIdxInd d => [d]
  | .adcAIndIdx d => [d]
  | .adcDpDp ds dd => [ds, dd]
  | .adcDpImm i d => [i, d]
  | .sbcAImm i => [i]
  | .sbcADp d => [d]
  | .sbcADpX d => [d]
  | .sbcAAbs a => [loByte a, hiByte a]
  | .sbcAAbsX a => [loByte a, hiByte a]
  | .sbcAAbsY a => [loByte a, hiByte a]
  | .sbcAIdxInd d => [d]
  | .sbcAIndIdx d => [d]
  | .sbcDpDp ds dd => [ds, dd]
  | .sbcDpImm i d => [i, d]
  | .cmpXImm i => [i]
  | .cmpXDp d => [d]
  | .cmpXAbs a => [loByte a, hiByte a]
  | .cmpYImm i => [i]
  | .cmpYDp d => [d]
  | .cmpYAbs a => [loByte a, hiByte a]
  | .addw d => [d]
  | .subw d => [d]
  | .cmpw d => [d]
  | .aslDp d => [d]
  | .aslDpX d => [d]
  | .aslAbs a => [loByte a, hiByte a]
  | .lsrDp d => [d]
  | .lsrDpX d => [d]
  | .lsrAbs a => [loByte a, hiByte a]
  | .rolDp d => [d]
  | .rolDpX d => [d]
  | .rolAbs a => [loByte a, hiByte a]
  | .rorDp d => [d]
  | .rorDpX d => [d]
  | .rorAbs a => [loByte a, hiByte a]
  | .set1 _ d => [d]
  | .clr1 _ d => [d]
  | .bbs _ d r => [d, r]
  | .bbc _ d r => [d, r]
  | .tset1 a => [loByte a, hiByte a]
  | .tclr1 a => [loByte a, hiByte a]
  | .or1 m b => [loByte (memBitWord m b), hiByte (memBitWord m b)]
  | .or1Not m b => [loByte (memBitWord m b), hiByte (memBitWord m b)]
  | .and1 m b => [loByte (memBitWord m b), hiByte (memBitWord m b)]
  | .and1Not m b => [loByte (memBitWord m b), hiByte (memBitWord m b)]
  | .eor1 m b => [loByte (memBitWord m b), hiByte (memBitWord m b)]
  | .mov1CMem m b => [loByte (memBitWord m b), hiByte (memBitWord m b)]
  | .mov1MemC m b => [loByte (memBitWord m b), hiByte (memBitWord m b)]
  | .not1 m b => [loByte (memBitWord m b), hiByte (memBitWord m b)]
  | .bpl r => [r]
  | .bmi r => [r]
  | .bvc r => [r]
  | .bvs r => [r]
  | .bcc r => [r]
  | .bcs r => [r]
  | .bne r => [r]
  | .beq r => [r]
  | .bra r => [r]
  | .call a => [loByte a, hiByte a]
  | .jmpAbs a => [loByte a, hiByte a]
  | .jmpIdxInd a => [loByte a, hiByte a]
  | .dbnzY r => [r]
  | .dbnzDp d r => [d, r]
  | .cbneDp d r => [d, r]
  | .cbneDpX d r => [d, r]
  | .pcall u => [u]
  | .incDp d => [d]
  | .incDpX d => [d]
  | .incAbs a => [loByte a, hiByte a]
  | .decDp d => [d]
  | .decDpX d => [d]
  | .decAbs a => [loByte a, hiByte a]
  | .incw d => [d]
  | .decw d => [d]

/-- The bytes of an instruction (R66): the opcode byte, then the operand bytes. -/
def encode (i : Instr) : List Byte := i.opcode :: i.operands

/-- The three bytes of a number whose bit 0 is the least significant bit of the first byte, all bits from `nbits` up 0. -/
def tableBytes (nbits w : Nat) : List Byte :=
  let v := w % 2 ^ nbits
  [BitVec.ofNat 8 v, BitVec.ofNat 8 (v / 256), BitVec.ofNat 8 (v / 65536)]

/-- The instruction the decoder reads from the bits `w` of a row of spec/opcode_table.json, numbered as the table does:
the first byte is bits 7:0, the second bits 15:8, the third bits 23:16; the bits from `nbits` up are 0. -/
def decodeTableWord (nbits w : Nat) : Option Instr :=
  match decode (tableBytes nbits w) with
  | .ok (i, _) => some i
  | .error _ => none

end Sys2Proof
end

