-- ==== Sys2Proof/Config.lean ====
section
/-! DEFINITION. What the spec leaves to a parameter (00_scope.md R8) and what it leaves open (R11, R8 "OPEN").
Parameters with a default are plain data (`Params`, held in State so that a run can be evaluated for any value of them);
values the spec does not give at all are opaque constants, so that nothing can be proved of their value. -/

namespace Sys2Proof

/-- DP_WORD_WRAP (R8, 20_memory.md R41): where the high byte of a direct-page word at offset 0xFF lies. -/
inductive DpWrap where
  /-- In the next page, at `dp(0xFF) + 1` (the default). -/
  | linear
  /-- In the same page, at `dp(0x00)`. -/
  | page
  deriving DecidableEq, Repr

/-- One entry of a COST table that differs from the default of 70_reset_and_hazards.md R346: opcode byte, branch taken or
not, cycles (R8 "table opcode × taken → cycles"). -/
structure CostEntry where
  op : Byte
  taken : Bool
  cycles : Nat
  deriving DecidableEq, Repr

/-- The parameters of R8 that have a default. No step changes them. -/
structure Params where
  /-- EXT_OPCODES: whether the tier E opcodes execute (R7, 30_encoding.md R72). -/
  extOpcodes : Bool
  /-- DP_WORD_WRAP. -/
  dpWordWrap : DpWrap
  /-- COST, as its differences from the default table; the first entry for an opcode and outcome counts. -/
  costs : List CostEntry
  deriving DecidableEq, Repr

/-- The defaults of R8: EXT_OPCODES false, DP_WORD_WRAP linear, COST the default table. -/
def Params.default : Params := { extOpcodes := false, dpWordWrap := .linear, costs := [] }

/-- The `k`-th one-bit draw `any_1()` of a run (R11): a free value, nothing constrains it (log 9). -/
opaque Config.freeBit : Nat → Bool

/-- The `k`-th eight-bit draw `any_8()` of a run (R11): a free value, nothing constrains it (log 9). -/
opaque Config.freeByte : Nat → Byte

/-- GAUSS, 512 signed integers (R8: OPEN; log 8). -/
opaque Config.gauss : BitVec 9 → Int

/-- ATTACK_RATE, 16 naturals (R8: OPEN; log 8). -/
opaque Config.attackRate : BitVec 4 → Nat

/-- DECAY_RATE, indexed `[dr][sl]` (R8: OPEN; log 8). -/
opaque Config.decayRate : BitVec 3 → BitVec 3 → Nat

/-- SUSTAIN_RATE, indexed `[sr][sl]` (R8: OPEN; log 8). -/
opaque Config.sustainRate : BitVec 5 → BitVec 3 → Nat

/-- GAIN_LINEAR, 32 naturals (R8: OPEN; log 8). -/
opaque Config.gainLinear : BitVec 5 → Nat

/-- GAIN_BENT, 32 naturals (R8: OPEN; log 8). -/
opaque Config.gainBent : BitVec 5 → Nat

/-- The six DSP tables together. The DSP's functions take them as an argument, so that a statement may speak of any
tables; the machine uses `Config.tables`. It is no part of State. -/
structure DspTables where
  gauss : BitVec 9 → Int
  attackRate : BitVec 4 → Nat
  decayRate : BitVec 3 → BitVec 3 → Nat
  sustainRate : BitVec 5 → BitVec 3 → Nat
  gainLinear : BitVec 5 → Nat
  gainBent : BitVec 5 → Nat

/-- The tables of the machine: all six open. -/
def Config.tables : DspTables :=
  { gauss := Config.gauss, attackRate := Config.attackRate, decayRate := Config.decayRate,
    sustainRate := Config.sustainRate, gainLinear := Config.gainLinear, gainBent := Config.gainBent }

end Sys2Proof
end

