-- ==== Sys2Proof/Machine/Memory.lean ====
section
/-! DEFINITION. RAM[0..65535] (10_state.md R21) as plain data: a list of address and byte pairs in one canonical form,
addresses strictly rising below 65536 and no entry equal to what an unlisted address reads as. -/

namespace Sys2Proof.Machine

/-- The RAM array, with no dispatch of the register window: `RAM[a]` of 00_scope.md R10. -/
abbrev Memory := List Host.Cell

/-- What an address reads as that no entry lists. DESIGN CHOICE, unsafe (log 2): the spec makes the launch RAM a parameter
(10_state.md R29), and the launch this model resets to holds 0x00 everywhere. -/
def Memory.unlisted : Byte := 0x00

/-- `RAM[a]` (20_memory.md R34). -/
def Memory.read : Memory → Addr → Byte
  | [], _ => Memory.unlisted
  | (k, v) :: m, a => if k = a.toNat then v else Memory.read m a

/-- `RAM[a] <- v`, keeping the canonical form. -/
def Memory.write : Memory → Addr → Byte → Memory
  | [], a, v => if v = Memory.unlisted then [] else [(a.toNat, v)]
  | (k, w) :: m, a, v =>
    if k < a.toNat then (k, w) :: Memory.write m a v
    else if k = a.toNat then (if v = Memory.unlisted then m else (k, v) :: m)
    else if v = Memory.unlisted then (k, w) :: m
    else (a.toNat, v) :: (k, w) :: m

/-- The canonical form: keys below 65536, strictly rising, no entry that an unlisted address would read as. -/
def Memory.wf : Memory → Bool
  | [] => true
  | (k, v) :: m => decide (k < 65536) && v != Memory.unlisted && m.all (fun c => decide (k < c.1)) && Memory.wf m

end Sys2Proof.Machine
end

