-- ==== Sys2Proof/Machine/State.lean ====
section
/-! DEFINITION. The state of the block as plain data: CPU, memory, register window, timers, DSP, scheduler (10_state.md R15 to
R28), and its launch values (R29). -/

namespace Sys2Proof.Machine

/-- The program status word, one Bool per flag (10_state.md R18), bit 7 first. -/
structure Psw where
  n : Bool
  v : Bool
  p : Bool
  b : Bool
  h : Bool
  i : Bool
  z : Bool
  c : Bool
  deriving DecidableEq, Repr

/-- The CPU's run state (R20). -/
inductive Run where
  | running | halted | faulted
  deriving DecidableEq, Repr

/-- `fault_info`: the unknown opcode byte and the address it was fetched from (R20, 60_exceptions.md R304). -/
structure FaultInfo where
  op : Byte
  pc : Addr
  deriving DecidableEq, Repr

/-- `timer[i]` (R24). -/
structure Timer where
  enabled : Bool
  /-- `next_tick`, same scale as `cycle`. -/
  nextTick : Nat
  /-- The pre-divider. -/
  pre : Byte
  /-- The 4-bit output counter. -/
  counter : BitVec 4
  /-- The divisor latched at enable; 0 means 256. -/
  divisor : Byte
  deriving DecidableEq, Repr

/-- The decoded samples and header fields of a voice's current block: `voice[v].blk` (R26). -/
structure Block where
  samples : Vector Int 16
  filter : BitVec 2
  loop : Bool
  last : Bool
  deriving DecidableEq, Repr

/-- The envelope phase (R26). -/
inductive Phase where
  | attack | decay | sustain | release
  deriving DecidableEq, Repr

/-- `voice[v]` (R26). -/
structure Voice where
  enabled : Bool
  /-- Address of the header byte of the current block. -/
  curAddr : Addr
  blk : Block
  /-- The phase accumulator, below 0x10000 between samples. -/
  pitchCounter : Nat
  /-- `p0`, `p1`, `p2`, oldest first. -/
  prevInterp : Vector Int 3
  /-- `s[n-2]`, `s[n-1]`. -/
  prevBrr : Vector Int 2
  phase : Phase
  /-- The envelope level, 0 to 2047. -/
  env : Int
  /-- The value of `sample_counter` at which the next envelope step is due. -/
  nextCounter : Nat
  deriving DecidableEq, Repr

/-- The DSP: its register file `dsp[0..127]` (R25) and its eight voices (R26). -/
structure Dsp where
  regs : Vector Byte 128
  voices : Vector Voice 8
  deriving DecidableEq, Repr

/-- One output pair `out[k]` (R27, 60_exceptions.md R314): two signed 16-bit numbers, in two's complement (log 16). -/
structure Sample where
  left : BitVec 16
  right : BitVec 16
  deriving DecidableEq, Repr

/-- The whole state (R15 to R27). `YA` is the pair of `y` and `a` (R15); the register window has no storage of its own beyond
`ram`, `dsp`, `dspAddr` and the timers' counters (R22). -/
structure State where
  a : Byte
  x : Byte
  y : Byte
  sp : Byte
  pc : Addr
  psw : Psw
  run : Run
  faultInfo : Option FaultInfo
  ram : Memory
  /-- `dsp_addr`, the index of the DSP register behind 0x00F3 (R23). -/
  dspAddr : BitVec 7
  timers : Vector Timer 3
  dsp : Dsp
  cycle : Nat
  sampleCounter : Nat
  nextSampleCycle : Nat
  /-- `out[0], out[1], ...`: the sample pairs produced so far, oldest first (R27). -/
  out : List Sample
  /-- The model's own field, not the spec's: the index of the next free value (log 9). -/
  draws : Nat
  /-- The parameters of 00_scope.md R8; no step changes them. -/
  params : Params
  deriving DecidableEq, Repr

/-- Why a step does not happen. -/
inductive Fault where
  /-- Raised by `step` alone, in a state whose CPU is halted (R20, 60_exceptions.md R310: "A `halted` CPU has no step"): a stuck
  state, safe. -/
  | cpuHalted
  /-- Raised by `step` alone, in a state whose CPU is faulted (R20, R304: "A `faulted` CPU has no further step"): a stuck state,
  safe. -/
  | cpuFaulted
  deriving DecidableEq, Repr

/-- Why an instruction has no meaning in this model. -/
inductive Refusal where
  /-- Raised by an arm of `exec` whose instruction is not modelled (no arm of this model is such an arm): safe. -/
  | notModelled (mnemonic : String)
  deriving DecidableEq, Repr

/-- The three outcomes of an instruction or a step. -/
abbrev Result := Host.Outcome State Fault Refusal

/-- A timer with all fields 0 (R24, R29). -/
def Timer.off : Timer := { enabled := false, nextTick := 0, pre := 0, counter := 0, divisor := 0 }

/-- A voice at launch: not enabled, in Release, every other field 0 (R29). -/
def Voice.off : Voice :=
  { enabled := false, curAddr := 0,
    blk := { samples := Vector.replicate 16 0, filter := 0, loop := false, last := false },
    pitchCounter := 0, prevInterp := Vector.replicate 3 0, prevBrr := Vector.replicate 2 0,
    phase := .release, env := 0, nextCounter := 0 }

/-- The machine at launch (R29): the values the spec fixes, and for the launch state, which the spec leaves to a parameter,
the all-zero one (DESIGN CHOICE, unsafe: log 1, 2, 3). -/
def State.reset : State :=
  { a := 0, x := 0, y := 0, sp := 0, pc := 0,
    psw := { n := false, v := false, p := false, b := false, h := false, i := false, z := false, c := false },
    run := .running, faultInfo := none, ram := [], dspAddr := 0,
    timers := Vector.replicate 3 Timer.off,
    dsp := { regs := Vector.replicate 128 0, voices := Vector.replicate 8 Voice.off },
    cycle := 0, sampleCounter := 0, nextSampleCycle := 64, out := [], draws := 0, params := Params.default }

end Sys2Proof.Machine
end

