-- ==== Sys2Proof/Machine/Brr.lean ====
section
/-! DEFINITION. The sample directory and the ADPCM (BRR) block decoder (60_exceptions.md R326 to R328). All reads are raw reads
of RAM (20_memory.md R34); samples are unbounded integers and `>>` is the arithmetic shift (R323, R328; log 15). -/

namespace Sys2Proof.Machine

/-- The little-endian word at `a` in raw RAM (R326, 20_memory.md R35). -/
def Memory.word (m : Memory) (a : Addr) : Addr := wordOf (m.read (a + 1)) (m.read a)

/-- The address of the directory entry of source `n`: `(DIR * 256 + n * 4) mod 65536` (R326). -/
def dirEntry (dir n : Byte) : Addr := wordOf dir 0 + 4 * n.setWidth 16

/-- `DirStart(n)` (R326). -/
def dirStart (ram : Memory) (dir n : Byte) : Addr := ram.word (dirEntry dir n)

/-- `DirLoop(n)` (R326). -/
def dirLoop (ram : Memory) (dir n : Byte) : Addr := ram.word (dirEntry dir n + 2)

/-- `a >> n` on a signed integer, "the floor of `a / 2^n`" (00_scope.md R9): Int division by a positive number is the floor. -/
def asr (a : Int) (n : Nat) : Int := a / 2 ^ n

/-- The sample numbers of a block, 0 to 15 in order (R328). -/
def sampleIds : List (Fin 16) := [0, 1, 2, 3, 4, 5, 6, 7, 8, 9, 10, 11, 12, 13, 14, 15]

/-- The nibble of sample `k` of the block at `addr`: high nibble first (R327), sign-extended, -8 to 7 (R328). -/
def brrNibble (ram : Memory) (addr : Addr) (k : Fin 16) : Int :=
  let byte := ram.read (addr + 1 + BitVec.ofNat 16 (k.val / 2))
  if k.val % 2 = 0 then (byte.extractLsb' 4 4 : BitVec 4).toInt else (byte.extractLsb' 0 4 : BitVec 4).toInt

/-- `dst`: a nibble scaled by the header's range (R328). -/
def brrScale (range : BitVec 4) (nib : Int) : Int :=
  if range.toNat ≤ 12 then asr (nib * 2 ^ range.toNat) 1 else asr (asr nib 3 * 2 ^ 12) 1

/-- `out`: the filter applied to `dst`, with `p1 = s[n-1]` and `p0 = s[n-2]` (R328). -/
def brrFilter (filter : BitVec 2) (dst p1 p0 : Int) : Int :=
  match filter with
  | 0#2 => dst
  | 1#2 => dst + p1 + asr (-p1) 4
  | 2#2 => dst + 2 * p1 + asr (-3 * p1) 5 - p0 + asr p0 4
  | 3#2 => dst + 2 * p1 + asr (-13 * p1) 6 - p0 + asr (3 * p0) 4

/-- One iteration of the loop of R328 on a voice whose `blk.filter` is already that of the block. -/
def brrStep (ram : Memory) (x : Voice) (k : Fin 16) : Voice :=
  let range : BitVec 4 := (ram.read x.curAddr).extractLsb' 4 4
  let out := brrFilter x.blk.filter (brrScale range (brrNibble ram x.curAddr k)) (x.prevBrr.get 1) (x.prevBrr.get 0)
  { x with blk := { x.blk with samples := x.blk.samples.set k.val out k.isLt },
           prevBrr := #v[x.prevBrr.get 1, out] }

/-- The header fields of the block at `curAddr` (R327). -/
def readHeader (ram : Memory) (x : Voice) : Voice :=
  let h := ram.read x.curAddr
  { x with blk := { x.blk with filter := h.extractLsb' 2 2, loop := h.getLsbD 1, last := h.getLsbD 0 } }

/-- `DecodeBlock(v)` on the voice's own state (R328). -/
def decodeBlock (ram : Memory) (x : Voice) : Voice := sampleIds.foldl (brrStep ram) (readHeader ram x)

end Sys2Proof.Machine
end

