-- ==== Sys2Proof/Machine/Dsp.lean ====
section
/-! DEFINITION. The DSP voice engine (60_exceptions.md R323 to R338). Its functions take the tables of 00_scope.md R8, raw RAM
and the current `sample_counter` as arguments. -/

namespace Sys2Proof.Machine

/-- `dsp[k]` (10_state.md R25). -/
def Dsp.reg (d : Dsp) (k : BitVec 7) : Byte := d.regs.get ⟨k.toNat, k.isLt⟩

/-- `dsp[k] <- v`, the plain store. -/
def Dsp.setReg (d : Dsp) (k : BitVec 7) (v : Byte) : Dsp := { d with regs := d.regs.set k.toNat v k.isLt }

/-- `voice[v]` (10_state.md R26). -/
def Dsp.voice (d : Dsp) (v : Fin 8) : Voice := d.voices.get v

/-- `voice[v]` replaced. -/
def Dsp.setVoice (d : Dsp) (v : Fin 8) (x : Voice) : Dsp := { d with voices := d.voices.set v.val x v.isLt }

/-- The index `v * 16 + f` of field `f` of voice `v` (10_state.md R25). -/
def voiceReg (v : Fin 8) (f : BitVec 4) : BitVec 7 := BitVec.ofNat 3 v.val ++ f

/-- MVOLL (R25). -/
def regMvolL : BitVec 7 := 0x0C#7
/-- MVOLR (R25). -/
def regMvolR : BitVec 7 := 0x1C#7
/-- KON (R25). -/
def regKon : BitVec 7 := 0x4C#7
/-- KOFF (R25). -/
def regKoff : BitVec 7 := 0x5C#7
/-- DIR (R25). -/
def regDir : BitVec 7 := 0x5D#7
/-- FLG (R25). -/
def regFlg : BitVec 7 := 0x6C#7
/-- ENDX (R25). -/
def regEndx : BitVec 7 := 0x7C#7

/-- The voice numbers in the order every loop takes them, 0 to 7 (R325, R331). -/
def voiceIds : List (Fin 8) := [0, 1, 2, 3, 4, 5, 6, 7]

/-- The directory's start address for voice `v`'s source (R326). -/
def Dsp.startAddr (d : Dsp) (ram : Memory) (v : Fin 8) : Addr := dirStart ram (d.reg regDir) (d.reg (voiceReg v 4))

/-- The directory's loop address for voice `v`'s source (R326). -/
def Dsp.loopAddr (d : Dsp) (ram : Memory) (v : Fin 8) : Addr := dirLoop ram (d.reg regDir) (d.reg (voiceReg v 4))

/-- `KeyOn(v)` (R329). -/
def keyOn (ram : Memory) (sampleCounter : Nat) (d : Dsp) (v : Fin 8) : Dsp :=
  let started := decodeBlock ram
    { d.voice v with enabled := true, curAddr := d.startAddr ram v, prevBrr := #v[0, 0], prevInterp := #v[0, 0, 0] }
  d.setVoice v { started with pitchCounter := 0, env := 0, phase := .attack, nextCounter := sampleCounter }

/-- `KeyOff(v)` (R330). -/
def keyOff (d : Dsp) (v : Fin 8) : Dsp := d.setVoice v { d.voice v with phase := .release }

/-- `DspWrite(k, v)` (R325). -/
def dspWrite (ram : Memory) (sampleCounter : Nat) (k : BitVec 7) (v : Byte) (d : Dsp) : Dsp :=
  if k = regEndx then d.setReg regEndx 0
  else
    let d := d.setReg k v
    if k = regKon then (voiceIds.filter (fun x => v.getLsbD x.val)).foldl (keyOn ram sampleCounter) d
    else if k = regKoff then (voiceIds.filter (fun x => v.getLsbD x.val)).foldl keyOff d
    else if k = regFlg ∧ v.getLsbD 7 then voiceIds.foldl keyOff d
    else d

/-- The 14-bit pitch of voice `v` (R333). -/
def Dsp.pitch (d : Dsp) (v : Fin 8) : Nat :=
  ((d.reg (voiceReg v 3)).extractLsb' 0 6 : BitVec 6).toNat * 256 + (d.reg (voiceReg v 2)).toNat

/-- `NextBlock(v)` (R334). -/
def nextBlock (ram : Memory) (v : Fin 8) (d : Dsp) : Dsp :=
  let x := d.voice v
  if x.blk.last then
    let d := d.setReg regEndx (d.reg regEndx ||| (1#8 <<< v.val))
    if x.blk.loop then d.setVoice v (decodeBlock ram { x with curAddr := d.loopAddr ram v })
    else d.setVoice v { x with phase := .release, env := 0 }
  else d.setVoice v (decodeBlock ram { x with curAddr := x.curAddr + 9 })

/-- `clamp(v, lo, hi)` (00_scope.md R9). -/
def clamp (v lo hi : Int) : Int := if v < lo then lo else if hi < v then hi else v

/-- `mix` of `Gauss(v, i, s)`: the interpolated sample (R335). -/
def gaussMix (T : DspTables) (i : Byte) (prev : Vector Int 3) (s : Int) : Int :=
  let k : BitVec 9 := i.setWidth 9
  clamp (asr (T.gauss (0x0FF - k) * prev.get 0 + T.gauss (0x1FF - k) * prev.get 1 + T.gauss (0x100 + k) * prev.get 2
    + T.gauss k * s) 11) (-16384) 16383

/-- The window of `Gauss(v, i, s)` after it: `(p1, p2, s)` (R335). -/
def shiftInterp (prev : Vector Int 3) (s : Int) : Vector Int 3 := #v[prev.get 1, prev.get 2, s]

/-- `dec(e) = ((e - 1) >> 8) + 1` (R336). -/
def envDec (e : Int) : Int := asr (e - 1) 8 + 1

/-- Release, in either mode (R336). -/
def envRelease (x : Voice) : Voice :=
  let e := if x.env - 8 < 0 then 0 else x.env - 8
  { x with env := e, enabled := x.enabled && decide (e ≠ 0) }

/-- The ADSR mode of `EnvStep` outside Release, when a step is due (R336). -/
def envAdsr (T : DspTables) (sampleCounter : Nat) (adsr1 adsr2 : Byte) (x : Voice) : Voice :=
  let ar : BitVec 4 := adsr1.extractLsb' 0 4
  let dr : BitVec 3 := adsr1.extractLsb' 4 3
  let sl : BitVec 3 := adsr2.extractLsb' 5 3
  let sr : BitVec 5 := adsr2.extractLsb' 0 5
  match x.phase with
  | .attack =>
    let e := x.env + (if ar = 15 then 1024 else 32)
    let x := { x with nextCounter := sampleCounter + T.attackRate ar }
    if e ≥ 2047 then { x with env := 2047, phase := .decay } else { x with env := e }
  | .decay =>
    let e := x.env - envDec x.env
    let x := { x with env := e, nextCounter := sampleCounter + T.decayRate dr sl }
    if e ≤ 256 * (sl.toNat + 1) then { x with phase := .sustain } else x
  | .sustain =>
    if sr.toNat > 0 then
      { x with env := x.env - envDec x.env, nextCounter := sampleCounter + T.sustainRate sr sl }
    else x
  | .release => x

/-- The time-varying GAIN modes of `EnvStep` outside Release, when a step is due (R336). -/
def envGain (T : DspTables) (sampleCounter : Nat) (gain : Byte) (x : Voice) : Voice :=
  let rate : BitVec 5 := gain.extractLsb' 0 5
  match (gain.extractLsb' 5 2 : BitVec 2) with
  | 0#2 => { x with env := clamp (x.env - 32) 0 2047, nextCounter := sampleCounter + T.gainLinear rate }
  | 1#2 => { x with env := clamp (x.env - envDec x.env) 0 2047, nextCounter := sampleCounter + T.sustainRate rate 7 }
  | 2#2 => { x with env := clamp (x.env + 32) 0 2047, nextCounter := sampleCounter + T.gainLinear rate }
  | 3#2 =>
    { x with env := clamp (x.env + (if x.env > 1536 then 8 else 32)) 0 2047,
             nextCounter := sampleCounter + T.gainBent rate }

/-- `EnvStep(v)` on the voice's own state, with the three registers as they are now (R336). -/
def envStep (T : DspTables) (sampleCounter : Nat) (adsr1 adsr2 gain : Byte) (x : Voice) : Voice :=
  if x.phase = .release then envRelease x
  else if adsr1.getLsbD 7 then
    if sampleCounter ≥ x.nextCounter then envAdsr T sampleCounter adsr1 adsr2 x else x
  else if gain.getLsbD 7 then
    if sampleCounter ≥ x.nextCounter then envGain T sampleCounter gain x else x
  else { x with env := ((gain.extractLsb' 0 7 : BitVec 7).toNat * 16 : Nat) }

/-- VxENVX: `(env >> 7) & 0x0F` (R332, R337). -/
def envxByte (env : Int) : Byte := BitVec.ofInt 8 (asr env 7) &&& 0x0F

/-- VxOUTX: `(shaped >> 8) & 0x0F`, the arithmetic shift first (R332, R337). -/
def outxByte (shaped : Int) : Byte := BitVec.ofInt 8 (asr shaped 8) &&& 0x0F

/-- The pitch step of `VoiceStep(v)`: the counter, and the next block when it passes 0x10000 (R332). -/
def pitchStep (ram : Memory) (v : Fin 8) (d : Dsp) : Dsp :=
  let x := d.voice v
  let pc := x.pitchCounter + d.pitch v
  if pc ≥ 0x10000 then nextBlock ram v (d.setVoice v { x with pitchCounter := pc - 0x10000 })
  else d.setVoice v { x with pitchCounter := pc }

/-- `VoiceStep(v)` (R332): the DSP after it and the shaped sample. -/
def voiceStep (T : DspTables) (ram : Memory) (sampleCounter : Nat) (v : Fin 8) (d : Dsp) : Dsp × Int :=
  let d := pitchStep ram v d
  let x := d.voice v
  let s := x.blk.samples.get (Fin.ofNat 16 (x.pitchCounter / 4096))
  let mix := gaussMix T (BitVec.ofNat 8 (x.pitchCounter / 16)) x.prevInterp s
  let x := envStep T sampleCounter (d.reg (voiceReg v 5)) (d.reg (voiceReg v 6)) (d.reg (voiceReg v 7))
    { x with prevInterp := shiftInterp x.prevInterp s }
  let shaped := asr (mix * x.env) 11
  let d := d.setVoice v x
  ((d.setReg (voiceReg v 8) (envxByte x.env)).setReg (voiceReg v 9) (outxByte shaped), shaped)

/-- The DSP and the two accumulators in the middle of a sample (R331). -/
structure MixState where
  dsp : Dsp
  accL : Int
  accR : Int
  deriving DecidableEq, Repr

/-- Voice `v`'s turn in `DspSample()`: skipped when the voice is not enabled (R331). -/
def mixVoice (T : DspTables) (ram : Memory) (sampleCounter : Nat) (m : MixState) (v : Fin 8) : MixState :=
  if (m.dsp.voice v).enabled then
    let r := voiceStep T ram sampleCounter v m.dsp
    { dsp := r.1,
      accL := m.accL + asr (r.2 * (r.1.reg (voiceReg v 0)).toInt) 7,
      accR := m.accR + asr (r.2 * (r.1.reg (voiceReg v 1)).toInt) 7 }
  else m

/-- One channel of `Mix` before muting (R338). -/
def mixChannel (acc : Int) (volume : Byte) : Int := clamp (asr (acc * volume.toInt) 7) (-32768) 32767

/-- `Mix(accL, accR)` (R338). -/
def mixSample (d : Dsp) (accL accR : Int) : Sample :=
  if (d.reg regFlg).getLsbD 6 then { left := 0, right := 0 }
  else { left := BitVec.ofInt 16 (mixChannel accL (d.reg regMvolL)),
         right := BitVec.ofInt 16 (mixChannel accR (d.reg regMvolR)) }

/-- `DspSample()` (R331): the DSP after it and the pair. -/
def dspSample (T : DspTables) (ram : Memory) (sampleCounter : Nat) (d : Dsp) : Dsp × Sample :=
  let m := voiceIds.foldl (mixVoice T ram sampleCounter) { dsp := d, accL := 0, accR := 0 }
  (m.dsp, mixSample m.dsp m.accL m.accR)

end Sys2Proof.Machine
end

