-- ==== Sys2Proof/Machine/Timers.lean ====
section
/-! DEFINITION. The three timers (60_exceptions.md R315 to R320). -/

namespace Sys2Proof.Machine

/-- PERIOD[i]: 256, 256, 32 cycles (10_state.md R24, R315). -/
def period (i : Fin 3) : Nat := if i = 2 then 32 else 256

/-- `TimerEnable(i)` (R316) at cycle `cycle`, the divisor latched from `RAM[0x00FA + i]`. -/
def Timer.enable (i : Fin 3) (divisor : Byte) (cycle : Nat) : Timer :=
  { enabled := true, nextTick := cycle + period i, pre := 0, counter := 0, divisor := divisor }

/-- One timer's part of `TimersTick()` (R318) at cycle `cycle`: at most one pre-divider tick. -/
def Timer.tick (i : Fin 3) (cycle : Nat) (t : Timer) : Timer :=
  if t.enabled ∧ cycle ≥ t.nextTick then
    if t.pre + 1 = t.divisor then
      { t with nextTick := t.nextTick + period i, pre := 0, counter := t.counter + 1 }
    else { t with nextTick := t.nextTick + period i, pre := t.pre + 1 }
  else t

/-- The timer whose counter an address of 0x00FD to 0x00FF reads (10_state.md R22, 20_memory.md R31). -/
def counterAt (a : Addr) : Option (Fin 3) :=
  if a = 0x00FD#16 then some 0 else if a = 0x00FE#16 then some 1 else if a = 0x00FF#16 then some 2 else none

/-- The timers after a read of `a`: a read of a counter clears it (R319, 20_memory.md R31). -/
def clearCounter (a : Addr) (ts : Vector Timer 3) : Vector Timer 3 :=
  match counterAt a with
  | some i => ts.set i.val { ts.get i with counter := 0 } i.isLt
  | none => ts

/-- The address of timer `i`'s divisor latch, `0x00FA + i` (10_state.md R22). -/
def divisorAddr (i : Fin 3) : Addr := 0x00FA#16 + BitVec.ofNat 16 i.val

/-- `timer[i]` after a write of `v` to Control with this RAM at cycle `cycle`: enabled if bit `i` is 1, else every field 0
(20_memory.md R32, R316, R317). -/
def controlTimer (ram : Memory) (cycle : Nat) (v : Byte) (i : Fin 3) : Timer :=
  if v.getLsbD i.val then Timer.enable i (ram.read (divisorAddr i)) cycle else Timer.off

/-- The three timers after a write of `v` to Control: each is enabled or disabled, whatever its previous state (R32). -/
def controlTimers (ram : Memory) (cycle : Nat) (v : Byte) : Vector Timer 3 :=
  #v[controlTimer ram cycle v 0, controlTimer ram cycle v 1, controlTimer ram cycle v 2]

/-- `TimersTick()` (R318). -/
def tickTimers (cycle : Nat) (ts : Vector Timer 3) : Vector Timer 3 :=
  #v[(ts.get 0).tick 0 cycle, (ts.get 1).tick 1 cycle, (ts.get 2).tick 2 cycle]

end Sys2Proof.Machine
end

