-- ==== Sys2Proof/Machine/Timing.lean ====
section
/-! DEFINITION. The cycle costs: COST (70_reset_and_hazards.md R346). -/

namespace Sys2Proof.Machine

/-- A cell `n` of the table of R346: the cost whether or not a branch is taken. -/
def fixedCost (n : Nat) : Nat × Nat := (n, n)

/-- The default table of R346, row by row: each cell the cost when a branch is not taken and when it is; row = high nibble of
the opcode, column = low nibble. -/
def costRow (hi : BitVec 4) : List (Nat × Nat) :=
  match hi with
  | 0x0#4 =>
    [fixedCost 2, fixedCost 8, fixedCost 4, (5, 7), fixedCost 3, fixedCost 4, fixedCost 3, fixedCost 6,
     fixedCost 2, fixedCost 6, fixedCost 5, fixedCost 4, fixedCost 5, fixedCost 4, fixedCost 6, fixedCost 8]
  | 0x1#4 =>
    [(4, 6), fixedCost 8, fixedCost 4, (5, 7), fixedCost 4, fixedCost 5, fixedCost 5, fixedCost 6,
     fixedCost 5, fixedCost 5, fixedCost 6, fixedCost 5, fixedCost 2, fixedCost 2, fixedCost 4, fixedCost 6]
  | 0x2#4 =>
    [fixedCost 2, fixedCost 8, fixedCost 4, (5, 7), fixedCost 3, fixedCost 4, fixedCost 3, fixedCost 6,
     fixedCost 2, fixedCost 6, fixedCost 5, fixedCost 4, fixedCost 5, fixedCost 4, (5, 7), fixedCost 4]
  | 0x3#4 =>
    [(4, 6), fixedCost 8, fixedCost 4, (5, 7), fixedCost 4, fixedCost 5, fixedCost 5, fixedCost 6,
     fixedCost 5, fixedCost 5, fixedCost 6, fixedCost 5, fixedCost 2, fixedCost 2, fixedCost 3, fixedCost 8]
  | 0x4#4 =>
    [fixedCost 2, fixedCost 8, fixedCost 4, (5, 7), fixedCost 3, fixedCost 4, fixedCost 3, fixedCost 6,
     fixedCost 2, fixedCost 6, fixedCost 4, fixedCost 4, fixedCost 5, fixedCost 4, fixedCost 6, fixedCost 6]
  | 0x5#4 =>
    [(4, 6), fixedCost 8, fixedCost 4, (5, 7), fixedCost 4, fixedCost 5, fixedCost 5, fixedCost 6,
     fixedCost 5, fixedCost 5, fixedCost 4, fixedCost 5, fixedCost 2, fixedCost 2, fixedCost 4, fixedCost 3]
  | 0x6#4 =>
    [fixedCost 2, fixedCost 8, fixedCost 4, (5, 7), fixedCost 3, fixedCost 4, fixedCost 3, fixedCost 6,
     fixedCost 2, fixedCost 6, fixedCost 4, fixedCost 4, fixedCost 5, fixedCost 4, (5, 7), fixedCost 5]
  | 0x7#4 =>
    [(4, 6), fixedCost 8, fixedCost 4, (5, 7), fixedCost 4, fixedCost 5, fixedCost 5, fixedCost 6,
     fixedCost 5, fixedCost 5, fixedCost 5, fixedCost 5, fixedCost 2, fixedCost 2, fixedCost 3, fixedCost 6]
  | 0x8#4 =>
    [fixedCost 2, fixedCost 8, fixedCost 4, (5, 7), fixedCost 3, fixedCost 4, fixedCost 3, fixedCost 6,
     fixedCost 2, fixedCost 6, fixedCost 5, fixedCost 4, fixedCost 5, fixedCost 2, fixedCost 4, fixedCost 5]
  | 0x9#4 =>
    [(4, 6), fixedCost 8, fixedCost 4, (5, 7), fixedCost 4, fixedCost 5, fixedCost 5, fixedCost 6,
     fixedCost 5, fixedCost 5, fixedCost 5, fixedCost 5, fixedCost 2, fixedCost 2, fixedCost 12, fixedCost 5]
  | 0xA#4 =>
    [fixedCost 3, fixedCost 8, fixedCost 4, (5, 7), fixedCost 3, fixedCost 4, fixedCost 3, fixedCost 6,
     fixedCost 2, fixedCost 6, fixedCost 4, fixedCost 4, fixedCost 5, fixedCost 2, fixedCost 4, fixedCost 4]
  | 0xB#4 =>
    [(4, 6), fixedCost 8, fixedCost 4, (5, 7), fixedCost 4, fixedCost 5, fixedCost 5, fixedCost 6,
     fixedCost 5, fixedCost 5, fixedCost 5, fixedCost 5, fixedCost 2, fixedCost 2, fixedCost 3, fixedCost 4]
  | 0xC#4 =>
    [fixedCost 3, fixedCost 8, fixedCost 4, (5, 7), fixedCost 4, fixedCost 5, fixedCost 4, fixedCost 7,
     fixedCost 2, fixedCost 5, fixedCost 6, fixedCost 4, fixedCost 5, fixedCost 2, fixedCost 4, fixedCost 9]
  | 0xD#4 =>
    [(4, 6), fixedCost 8, fixedCost 4, (5, 7), fixedCost 5, fixedCost 6, fixedCost 6, fixedCost 7,
     fixedCost 4, fixedCost 5, fixedCost 5, fixedCost 5, fixedCost 2, fixedCost 2, (6, 8), fixedCost 3]
  | 0xE#4 =>
    [fixedCost 2, fixedCost 8, fixedCost 4, (5, 7), fixedCost 3, fixedCost 4, fixedCost 3, fixedCost 6,
     fixedCost 2, fixedCost 4, fixedCost 5, fixedCost 3, fixedCost 4, fixedCost 3, fixedCost 4, fixedCost 3]
  | _ => -- row Fx, the one value left
    [(4, 6), fixedCost 8, fixedCost 4, (5, 7), fixedCost 4, fixedCost 5, fixedCost 5, fixedCost 6,
     fixedCost 3, fixedCost 4, fixedCost 5, fixedCost 4, fixedCost 2, fixedCost 2, (4, 6), fixedCost 3]

/-- The default cost of an opcode (R346). -/
def defaultCost (op : Byte) (taken : Bool) : Nat :=
  let cell := (costRow (op.extractLsb' 4 4)).getD (op.extractLsb' 0 4 : BitVec 4).toNat (fixedCost 0)
  if taken then cell.2 else cell.1

end Sys2Proof.Machine

/-- `COST(op, taken)` (R346, 00_scope.md R8): an entry of the parameter where there is one, else the default. -/
def Sys2Proof.Params.cost (p : Sys2Proof.Params) (op : Sys2Proof.Byte) (taken : Bool) : Nat :=
  match p.costs.find? (fun e => e.op == op && e.taken == taken) with
  | some e => e.cycles
  | none => Sys2Proof.Machine.defaultCost op taken
end

