-- ==== Sys2Proof/Machine/Ops.lean ====
section
/-! DEFINITION. The named operations over memory and registers that every meaning is made of: the memory fabric (20_memory.md
R30 to R33), the direct page (R40, R41), the stack (R42, R43), the end of an instruction, the one exception
(60_exceptions.md R304) and the software trap with its return (R307, R308). -/

namespace Sys2Proof.Machine

/-- The value `MemRead(addr, 1)` returns (20_memory.md R31). -/
def State.peek (s : State) (a : Addr) : Byte :=
  if a = 0x00F3#16 then s.dsp.reg s.dspAddr
  else match counterAt a with
    | some i => (s.timers.get i).counter.setWidth 8
    | none => s.ram.read a

/-- The side effect of `MemRead(addr, 1)`: a read of 0x00FD to 0x00FF clears that counter (R31). -/
def State.touch (s : State) (a : Addr) : State := { s with timers := clearCounter a s.timers }

/-- `MemWrite(addr, 1, v)` (R32). -/
def State.memWrite (s : State) (a : Addr) (v : Byte) : State :=
  if a = 0x00F1#16 then
    let ram := s.ram.write a v
    { s with ram := ram, timers := controlTimers ram s.cycle v }
  else if a = 0x00F2#16 then { s with ram := s.ram.write a v, dspAddr := v.setWidth 7 }
  else if a = 0x00F3#16 then { s with dsp := dspWrite s.ram s.sampleCounter s.dspAddr v s.dsp }
  else match counterAt a with
    | some _ => s
    | none => { s with ram := s.ram.write a v }

/-- `MemRead(addr, 2)`, the value: low byte first, then the byte at the next address (R33). -/
def State.peekWord (s : State) (a : Addr) : Addr := wordOf ((s.touch a).peek (a + 1)) (s.peek a)

/-- `MemRead(addr, 2)`, the side effects of both bytes (R33). -/
def State.touchWord (s : State) (a : Addr) : State := (s.touch a).touch (a + 1)

/-- `dp(o)`: the direct-page address of offset `o` (R40). -/
def State.dp (s : State) (o : Byte) : Addr := (if s.psw.p then 0x0100#16 else 0x0000#16) + o.setWidth 16

/-- `dphi(o)`: the address of the high byte of the direct-page word at `o`, by DP_WORD_WRAP (R41). -/
def State.dphi (s : State) (o : Byte) : Addr :=
  match s.params.dpWordWrap with
  | .linear => s.dp o + 1
  | .page => s.dp (o + 1)

/-- `DpWord(o)`, the value (R41). -/
def State.dpWord (s : State) (o : Byte) : Addr := wordOf ((s.touch (s.dp o)).peek (s.dphi o)) (s.peek (s.dp o))

/-- `DpWord(o)`, the side effects of both reads (R41). -/
def State.touchDpWord (s : State) (o : Byte) : State := (s.touch (s.dp o)).touch (s.dphi o)

/-- Write of a word to the direct page, low byte first (R33, R41). -/
def State.dpWordWrite (s : State) (o : Byte) (w : Addr) : State :=
  (s.memWrite (s.dp o) (loByte w)).memWrite (s.dphi o) (hiByte w)

/-- `0x0100 + SP`, the stack is always in page 1 (R42). -/
def stackAddr (sp : Byte) : Addr := 0x0100#16 + sp.setWidth 16

/-- `Push(v)` (R42). -/
def State.push (s : State) (v : Byte) : State := { s.memWrite (stackAddr s.sp) v with sp := s.sp - 1 }

/-- `Pop()`, the value (R43). -/
def State.popValue (s : State) : Byte := s.peek (stackAddr (s.sp + 1))

/-- `Pop()`, the state after it (R43). -/
def State.popped (s : State) : State := { s.touch (stackAddr (s.sp + 1)) with sp := s.sp + 1 }

/-- Push of a return address, high byte first (46_control_flow.md R260). -/
def State.pushWord (s : State) (w : Addr) : State := (s.push (hiByte w)).push (loByte w)

/-- Pop of a return address, low byte first (R262). -/
def State.popWord (s : State) : Addr := wordOf s.popped.popValue s.popValue

/-- `YA`, `Y * 256 + A` (10_state.md R15). -/
def State.ya (s : State) : Addr := wordOf s.y s.a

/-- A write to `YA` writes `Y` and `A` (R15). -/
def State.setYA (s : State) (w : Addr) : State := { s with y := hiByte w, a := loByte w }

/-- The eight flags as a byte, N at bit 7 down to C at bit 0 (10_state.md R18; log 20). -/
def Psw.toByte (f : Psw) : Byte := BitVec.ofBoolListBE [f.n, f.v, f.p, f.b, f.h, f.i, f.z, f.c]

/-- The eight flags from the bits of a byte (R18, 40_data_movement.md R127). -/
def Psw.ofByte (v : Byte) : Psw :=
  { n := v.getLsbD 7, v := v.getLsbD 6, p := v.getLsbD 5, b := v.getLsbD 4,
    h := v.getLsbD 3, i := v.getLsbD 2, z := v.getLsbD 1, c := v.getLsbD 0 }

/-- `sext_8(r)` as an addend of 16-bit address arithmetic (00_scope.md R9, 20_memory.md R54). -/
def sext8 (r : Byte) : Addr := r.signExtend 16

/-- The end of an instruction: `pc <- target`, and the cost of the outcome added to `cycle` (60_exceptions.md R312 item 2,
R347: after all its effects; log 12). -/
def State.goto (s : State) (i : Instr) (taken : Bool) (target : Addr) : State :=
  { s with pc := target, cycle := s.cycle + s.params.cost i.opcode taken }

/-- The address of the following instruction, `(pc + length) mod 65536` (10_state.md R17). -/
def State.nextPc (s : State) (i : Instr) : Addr := s.pc + BitVec.ofNat 16 i.length

/-- The end of an instruction that falls through to the next (R17). -/
def State.advance (s : State) (i : Instr) : State := s.goto i false (s.nextPc i)

/-- The end of a conditional branch: taken to `pc + length + sext_8(r)`, not taken to `pc + length` (20_memory.md R54,
45_branches.md R250). -/
def State.branch (s : State) (i : Instr) (taken : Bool) (r : Byte) : State :=
  s.goto i taken (if taken then s.nextPc i + sext8 r else s.nextPc i)

/-- `raise UnknownOpcode(op, pc)` (60_exceptions.md R304): the run state and `fault_info`, nothing else. -/
def State.raiseUnknown (s : State) (op : Byte) : State :=
  { s with run := .faulted, faultInfo := some { op := op, pc := s.pc } }

/-- A tier E instruction: its effect `t` with EXT_OPCODES true, the exception of R304 with false (00_scope.md R7,
30_encoding.md R72). -/
def State.tierE (s : State) (i : Instr) (t : State) : State :=
  if s.params.extOpcodes then t else s.raiseUnknown i.opcode

/-- The vector of BRK and of TCALL 0 (20_memory.md R38). -/
def trapVector : Addr := 0xFFDE#16

/-- Entry of the software trap, return address `ret` (60_exceptions.md R307, 47_flags_misc.md R284): push the return address high
then low, push PSW as it was, set B, clear I; the handler's address is read from the vector last. -/
def State.enterTrap (s : State) (ret : Addr) : State :=
  let t := (s.pushWord ret).push s.psw.toByte
  { t with psw := { t.psw with b := true, i := false } }

/-- Return from a trap, the registers (R308, 46_control_flow.md R271): PSW popped first, then the two bytes of the address. -/
def State.leaveTrap (s : State) : State := { s.popped.popped.popped with psw := Psw.ofByte s.popValue }

/-- Return from a trap, the address popped after PSW, low byte first (R271). -/
def State.trapReturn (s : State) : Addr := s.popped.popWord

/-- SLEEP and STOP: `run <- halted` (R310). -/
def State.halt (s : State) : State := { s with run := .halted }

end Sys2Proof.Machine
end

