-- ==== Sys2Proof/Machine/Flags.lean ====
section
/-! DEFINITION. The arithmetic and the flags of every operation (00_scope.md R10 setNZ8, setNZ16; 41_alu8.md R128 to R131;
42_arith16.md R213 to R217; 43_shift_rotate.md R218; 47_flags_misc.md R285, R286). An operation on bytes answers its result and the
state with its flags written; a flag it does not list keeps its value (R13). A draw `any_1()` or `any_8()` (R11) is the
next free value of Config, and `draws` moves on (log 9). -/

namespace Sys2Proof.Machine

/-- `setNZ8(v)` (R10). -/
def State.setNZ8 (s : State) (v : Byte) : State := { s with psw := { s.psw with n := v.msb, z := v == 0 } }

/-- `setNZ16(v)` (R10). -/
def State.setNZ16 (s : State) (v : Addr) : State := { s with psw := { s.psw with n := v.msb, z := v == 0 } }

/-- `or8` (R128). -/
def or8 (x m : Byte) (s : State) : Byte × State := (x ||| m, s.setNZ8 (x ||| m))

/-- `and8` (R128). -/
def and8 (x m : Byte) (s : State) : Byte × State := (x &&& m, s.setNZ8 (x &&& m))

/-- `eor8` (R128). -/
def eor8 (x m : Byte) (s : State) : Byte × State := (x ^^^ m, s.setNZ8 (x ^^^ m))

/-- `adc8` (R129); H is a draw. -/
def adc8 (x m : Byte) (s : State) : Byte × State :=
  let sum := x.toNat + m.toNat + s.psw.c.toNat
  let res := BitVec.ofNat 8 sum
  let psw := { s.psw with
    c := decide (sum > 0xFF), v := (~~~(x ^^^ m) &&& (x ^^^ res)).msb, h := Config.freeBit s.draws }
  (res, State.setNZ8 { s with psw := psw, draws := s.draws + 1 } res)

/-- `sbc8` (R130); `H <- V`. -/
def sbc8 (x m : Byte) (s : State) : Byte × State :=
  let borrow := 1 - s.psw.c.toNat
  let res := x - m - BitVec.ofNat 8 borrow
  let overflow := ((x ^^^ m) &&& (x ^^^ res)).msb
  let psw := { s.psw with c := decide (x.toNat ≥ m.toNat + borrow), v := overflow, h := overflow }
  (res, State.setNZ8 { s with psw := psw } res)

/-- `cmp8` (R131): no result. -/
def cmp8 (x m : Byte) (s : State) : State :=
  State.setNZ8 { s with psw := { s.psw with c := decide (x.toNat ≥ m.toNat) } } (x - m)

/-- `asl8` (R218). -/
def asl8 (v : Byte) (s : State) : Byte × State :=
  (v <<< 1, State.setNZ8 { s with psw := { s.psw with c := v.getLsbD 7 } } (v <<< 1))

/-- `lsr8` (R218). -/
def lsr8 (v : Byte) (s : State) : Byte × State :=
  (v >>> 1, State.setNZ8 { s with psw := { s.psw with c := v.getLsbD 0 } } (v >>> 1))

/-- The carry flag as a byte, 0 or 1. -/
def carryByte (s : State) : Byte := (BitVec.ofBool s.psw.c).setWidth 8

/-- `rol8` (R218). -/
def rol8 (v : Byte) (s : State) : Byte × State :=
  let res := (v <<< 1) ||| carryByte s
  (res, State.setNZ8 { s with psw := { s.psw with c := v.getLsbD 7 } } res)

/-- `ror8` (R218). -/
def ror8 (v : Byte) (s : State) : Byte × State :=
  let res := (v >>> 1) ||| (carryByte s <<< 7)
  (res, State.setNZ8 { s with psw := { s.psw with c := v.getLsbD 0 } } res)

/-- The increment of INC (48_inc_dec.md R287, R288). -/
def inc8 (v : Byte) (s : State) : Byte × State := (v + 1, s.setNZ8 (v + 1))

/-- The decrement of DEC (R287, R294). -/
def dec8 (v : Byte) (s : State) : Byte × State := (v - 1, s.setNZ8 (v - 1))

/-- `1 << b`, the mask of bit `b` (R236). -/
def bitMask (b : BitVec 3) : Byte := 1#8 <<< b.toNat

/-- SET1's change of a byte (44_bit_ops.md R236): no flag. -/
def setBit (b : BitVec 3) (v : Byte) (s : State) : Byte × State := (v ||| bitMask b, s)

/-- CLR1's change of a byte (R237): no flag. -/
def clearBit (b : BitVec 3) (v : Byte) (s : State) : Byte × State := (v &&& ~~~(bitMask b), s)

/-- NOT1's change of a byte (R249): no flag. -/
def flipBit (b : BitVec 3) (v : Byte) (s : State) : Byte × State := (v ^^^ bitMask b, s)

/-- MOV1's change of a byte: bit `b` becomes C (R248), no flag. -/
def carryToBit (b : BitVec 3) (v : Byte) (s : State) : Byte × State :=
  ((v &&& ~~~(bitMask b)) ||| (carryByte s <<< b.toNat), s)

/-- TSET1's change of a byte and its flags from `A - m` (R240). -/
def testSet (m : Byte) (s : State) : Byte × State := (m ||| s.a, s.setNZ8 (s.a - m))

/-- TCLR1's change of a byte and its flags from `A - m` (R241). -/
def testClear (m : Byte) (s : State) : Byte × State := (m &&& ~~~s.a, s.setNZ8 (s.a - m))

/-- The decrement of DBNZ $dp (R266): no flag. -/
def decrement (v : Byte) (s : State) : Byte × State := (v - 1, s)

/-- ADDW's arithmetic (42_arith16.md R213); H is a draw. -/
def State.addYA (s : State) (w : Addr) : State :=
  let sum := s.ya.toNat + w.toNat
  let res := BitVec.ofNat 16 sum
  let psw := { s.psw with
    c := decide (sum > 0xFFFF), v := (~~~(s.ya ^^^ w) &&& (s.ya ^^^ res)).msb, h := Config.freeBit s.draws }
  (State.setNZ16 { s with psw := psw, draws := s.draws + 1 } res).setYA res

/-- SUBW's arithmetic (R214); H is a draw. -/
def State.subYA (s : State) (w : Addr) : State :=
  let res := s.ya - w
  let psw := { s.psw with
    c := decide (s.ya.toNat ≥ w.toNat), v := ((s.ya ^^^ w) &&& (s.ya ^^^ res)).msb, h := Config.freeBit s.draws }
  (State.setNZ16 { s with psw := psw, draws := s.draws + 1 } res).setYA res

/-- CMPW's arithmetic (R217): no result. -/
def State.cmpYA (s : State) (w : Addr) : State :=
  State.setNZ16 { s with psw := { s.psw with c := decide (s.ya.toNat ≥ w.toNat) } } (s.ya - w)

/-- MUL's arithmetic (R215): N and Z from the new Y. -/
def State.mulYA (s : State) : State :=
  let p : Addr := s.y.setWidth 16 * s.a.setWidth 16
  (s.setYA p).setNZ8 (hiByte p)

/-- DIV's arithmetic (R216). V and H are draws; where X is 0 or the quotient exceeds 255, so are A, Y, N and Z. -/
def State.divYA (s : State) : State :=
  let ya := s.ya.toNat
  let t := { s with psw := { s.psw with v := Config.freeBit s.draws, h := Config.freeBit (s.draws + 1) },
                    draws := s.draws + 2 }
  if s.x ≠ 0 ∧ ya / s.x.toNat ≤ 255 then
    let q := BitVec.ofNat 8 (ya / s.x.toNat)
    State.setNZ8 { t with a := q, y := BitVec.ofNat 8 (ya % s.x.toNat) } q
  else
    { t with a := Config.freeByte (s.draws + 2), y := Config.freeByte (s.draws + 3),
             psw := { t.psw with n := Config.freeBit (s.draws + 4), z := Config.freeBit (s.draws + 5) },
             draws := s.draws + 6 }

/-- DAA's first line: the byte and the carry after it (47_flags_misc.md R285). -/
def daaHigh (a : Byte) (c : Bool) : Byte × Bool := if c ∨ a > 0x99 then (a + 0x60, true) else (a, c)

/-- DAA's second line (R285). -/
def daaLow (a : Byte) (h : Bool) : Byte := if h ∨ (a.extractLsb' 0 4 : BitVec 4) > 9 then a + 0x06 else a

/-- DAA's arithmetic (R285). -/
def State.daa (s : State) : State :=
  let t := daaHigh s.a s.psw.c
  let a := daaLow t.1 s.psw.h
  State.setNZ8 { s with a := a, psw := { s.psw with c := t.2 } } a

/-- DAS's first line: the byte and the carry after it (R286). -/
def dasHigh (a : Byte) (c : Bool) : Byte × Bool := if ¬c ∨ a > 0x99 then (a - 0x60, false) else (a, c)

/-- DAS's second line (R286). -/
def dasLow (a : Byte) (h : Bool) : Byte := if ¬h ∨ (a.extractLsb' 0 4 : BitVec 4) > 9 then a - 0x06 else a

/-- DAS's arithmetic (R286). -/
def State.das (s : State) : State :=
  let t := dasHigh s.a s.psw.c
  let a := dasLow t.1 s.psw.h
  State.setNZ8 { s with a := a, psw := { s.psw with c := t.2 } } a

/-- CLRV (R278): V cleared, H a draw. -/
def State.clearV (s : State) : State :=
  { s with psw := { s.psw with v := false, h := Config.freeBit s.draws }, draws := s.draws + 1 }

end Sys2Proof.Machine
end

