-- ==== Sys2Proof/Machine/Operands.lean ====
section
/-! DEFINITION. The operand forms (20_memory.md R44 to R56): the effective address of each memory form, the state after the
pointer reads it makes, and the reads and writes through it. -/

namespace Sys2Proof.Machine

/-- The memory operand forms. -/
inductive Loc where
  /-- `(X)` (R47), and the access of `(X)+` (R48). -/
  | indX
  /-- `(Y)` (R47). -/
  | indY
  /-- `$dp` (R45), and the byte of `$dp.b` (R55). -/
  | dp (d : Byte)
  /-- `$dp+X` (R46). -/
  | dpX (d : Byte)
  /-- `$dp+Y` (R46). -/
  | dpY (d : Byte)
  /-- `$aaaa` (R49), and the byte of `$mmmm.b` (R56). -/
  | abs (a : Addr)
  /-- `$aaaa+X` (R50). -/
  | absX (a : Addr)
  /-- `$aaaa+Y` (R50). -/
  | absY (a : Addr)
  /-- `[$dp+X]` (R51). -/
  | idxInd (d : Byte)
  /-- `[$dp]+Y` (R52). -/
  | indIdx (d : Byte)
  deriving DecidableEq, Repr

/-- The effective address `ea` (R45 to R52). -/
def Loc.addr (l : Loc) (s : State) : Addr :=
  match l with
  | .indX => s.dp s.x
  | .indY => s.dp s.y
  | .dp d => s.dp d
  | .dpX d => s.dp (d + s.x)
  | .dpY d => s.dp (d + s.y)
  | .abs a => a
  | .absX a => a + s.x.setWidth 16
  | .absY a => a + s.y.setWidth 16
  | .idxInd d => s.dpWord (d + s.x)
  | .indIdx d => s.dpWord d + s.y.setWidth 16

/-- The state after the address is formed: the pointer forms read a direct-page word (R51, R52), the others nothing. -/
def Loc.walk (l : Loc) (s : State) : State :=
  match l with
  | .idxInd d => s.touchDpWord (d + s.x)
  | .indIdx d => s.touchDpWord d
  | .indX | .indY | .dp _ | .dpX _ | .dpY _ | .abs _ | .absX _ | .absY _ => s

/-- The byte a read of the operand returns: `MemRead(ea, 1)` after the address is formed. -/
def Loc.value (l : Loc) (s : State) : Byte := (l.walk s).peek (l.addr s)

/-- The state after a read of the operand. -/
def Loc.after (l : Loc) (s : State) : State := (l.walk s).touch (l.addr s)

/-- A write to the operand, no read of it made (20_memory.md R64). -/
def Loc.store (l : Loc) (v : Byte) (s : State) : State := (l.walk s).memWrite (l.addr s) v

/-- Read, change by `f`, write back to the same address (R59): `f` gets the byte read and the state after the read, and answers
the byte to write and the state with its flags. -/
def Loc.modify (l : Loc) (f : Byte → State → Byte × State) (s : State) : State :=
  let r := f (l.value s) (l.after s)
  r.2.memWrite (l.addr s) r.1

/-- A source operand: the immediate byte (R44) or a memory form. -/
inductive Src where
  | imm (i : Byte)
  | mem (l : Loc)
  deriving DecidableEq, Repr

/-- The source byte. -/
def Src.value (o : Src) (s : State) : Byte :=
  match o with
  | .imm i => i
  | .mem l => l.value s

/-- The state after the source is read. -/
def Src.after (o : Src) (s : State) : State :=
  match o with
  | .imm _ => s
  | .mem l => l.after s

end Sys2Proof.Machine
end

