-- ==== Sys2Proof/Machine/Alu8.lean ====
section
/-! DEFINITION. The 8-bit ALU (41_alu8.md R128 to R211): OR, AND, EOR, CMP, ADC, SBC. -/

namespace Sys2Proof.Machine

/-- `A <- f(A, m)` with `m` the source operand (R134 and the like). -/
def State.aluA (s : State) (f : Byte → Byte → State → Byte × State) (o : Src) : State :=
  let r := f s.a (o.value s) (o.after s)
  { r.2 with a := r.1 }

/-- A memory destination: the source is read first, then the destination, then the result is written to it (R132). -/
def State.aluMem (s : State) (f : Byte → Byte → State → Byte × State) (dst : Loc) (o : Src) : State :=
  dst.modify (fun t => f t (o.value s)) (o.after s)

/-- `cmp8(x, m)` of a register with the source operand (R170, R206). -/
def State.cmpReg (s : State) (x : Byte) (o : Src) : State := cmp8 x (o.value s) (o.after s)

/-- `cmp8(t, m)` of two bytes of memory, or of one with an immediate: both read in the order of R132, nothing written. -/
def State.cmpMem (s : State) (dst : Loc) (o : Src) : State :=
  cmp8 (dst.value (o.after s)) (o.value s) (dst.after (o.after s))

/-- `OR A,#imm` (R134). -/
def execOrAImm (i : Byte) (s : State) : Result := .next ((s.aluA or8 (.imm i)).advance (.orAImm i))

/-- `OR A,(X)` (R135). -/
def execOrAIndX (s : State) : Result := .next ((s.aluA or8 (.mem .indX)).advance .orAIndX)

/-- `OR A,$dp` (R136). -/
def execOrADp (d : Byte) (s : State) : Result := .next ((s.aluA or8 (.mem (.dp d))).advance (.orADp d))

/-- `OR A,$dp+X` (R137). -/
def execOrADpX (d : Byte) (s : State) : Result := .next ((s.aluA or8 (.mem (.dpX d))).advance (.orADpX d))

/-- `OR A,$aaaa` (R138). -/
def execOrAAbs (a : Addr) (s : State) : Result := .next ((s.aluA or8 (.mem (.abs a))).advance (.orAAbs a))

/-- `OR A,$aaaa+X` (R139). -/
def execOrAAbsX (a : Addr) (s : State) : Result := .next ((s.aluA or8 (.mem (.absX a))).advance (.orAAbsX a))

/-- `OR A,$aaaa+Y` (R140). -/
def execOrAAbsY (a : Addr) (s : State) : Result := .next ((s.aluA or8 (.mem (.absY a))).advance (.orAAbsY a))

/-- `OR A,[$dp+X]` (R141). -/
def execOrAIdxInd (d : Byte) (s : State) : Result := .next ((s.aluA or8 (.mem (.idxInd d))).advance (.orAIdxInd d))

/-- `OR A,[$dp]+Y` (R142). -/
def execOrAIndIdx (d : Byte) (s : State) : Result := .next ((s.aluA or8 (.mem (.indIdx d))).advance (.orAIndIdx d))

/-- `OR (X),(Y)` (R143). -/
def execOrIndXIndY (s : State) : Result := .next ((s.aluMem or8 .indX (.mem .indY)).advance .orIndXIndY)

/-- `OR $dd,$ds` (R144). -/
def execOrDpDp (ds : Byte) (dd : Byte) (s : State) : Result :=
  .next ((s.aluMem or8 (.dp dd) (.mem (.dp ds))).advance (.orDpDp ds dd))

/-- `OR $dp,#imm` (R145). -/
def execOrDpImm (i : Byte) (d : Byte) (s : State) : Result := .next ((s.aluMem or8 (.dp d) (.imm i)).advance (.orDpImm i d))

/-- `AND A,#imm` (R146). -/
def execAndAImm (i : Byte) (s : State) : Result := .next ((s.aluA and8 (.imm i)).advance (.andAImm i))

/-- `AND A,(X)` (R147). -/
def execAndAIndX (s : State) : Result := .next ((s.aluA and8 (.mem .indX)).advance .andAIndX)

/-- `AND A,$dp` (R148). -/
def execAndADp (d : Byte) (s : State) : Result := .next ((s.aluA and8 (.mem (.dp d))).advance (.andADp d))

/-- `AND A,$dp+X` (R149). -/
def execAndADpX (d : Byte) (s : State) : Result := .next ((s.aluA and8 (.mem (.dpX d))).advance (.andADpX d))

/-- `AND A,$aaaa` (R150). -/
def execAndAAbs (a : Addr) (s : State) : Result := .next ((s.aluA and8 (.mem (.abs a))).advance (.andAAbs a))

/-- `AND A,$aaaa+X` (R151). -/
def execAndAAbsX (a : Addr) (s : State) : Result := .next ((s.aluA and8 (.mem (.absX a))).advance (.andAAbsX a))

/-- `AND A,$aaaa+Y` (R152). -/
def execAndAAbsY (a : Addr) (s : State) : Result := .next ((s.aluA and8 (.mem (.absY a))).advance (.andAAbsY a))

/-- `AND A,[$dp+X]` (R153). -/
def execAndAIdxInd (d : Byte) (s : State) : Result := .next ((s.aluA and8 (.mem (.idxInd d))).advance (.andAIdxInd d))

/-- `AND A,[$dp]+Y` (R154). -/
def execAndAIndIdx (d : Byte) (s : State) : Result := .next ((s.aluA and8 (.mem (.indIdx d))).advance (.andAIndIdx d))

/-- `AND (X),(Y)` (R155). -/
def execAndIndXIndY (s : State) : Result := .next ((s.aluMem and8 .indX (.mem .indY)).advance .andIndXIndY)

/-- `AND $dd,$ds` (R156). -/
def execAndDpDp (ds : Byte) (dd : Byte) (s : State) : Result :=
  .next ((s.aluMem and8 (.dp dd) (.mem (.dp ds))).advance (.andDpDp ds dd))

/-- `AND $dp,#imm` (R157). -/
def execAndDpImm (i : Byte) (d : Byte) (s : State) : Result :=
  .next ((s.aluMem and8 (.dp d) (.imm i)).advance (.andDpImm i d))

/-- `EOR A,#imm` (R158). -/
def execEorAImm (i : Byte) (s : State) : Result := .next ((s.aluA eor8 (.imm i)).advance (.eorAImm i))

/-- `EOR A,(X)` (R159). -/
def execEorAIndX (s : State) : Result := .next ((s.aluA eor8 (.mem .indX)).advance .eorAIndX)

/-- `EOR A,$dp` (R160). -/
def execEorADp (d : Byte) (s : State) : Result := .next ((s.aluA eor8 (.mem (.dp d))).advance (.eorADp d))

/-- `EOR A,$dp+X` (R161). -/
def execEorADpX (d : Byte) (s : State) : Result := .next ((s.aluA eor8 (.mem (.dpX d))).advance (.eorADpX d))

/-- `EOR A,$aaaa` (R162). -/
def execEorAAbs (a : Addr) (s : State) : Result := .next ((s.aluA eor8 (.mem (.abs a))).advance (.eorAAbs a))

/-- `EOR A,$aaaa+X` (R163). -/
def execEorAAbsX (a : Addr) (s : State) : Result := .next ((s.aluA eor8 (.mem (.absX a))).advance (.eorAAbsX a))

/-- `EOR A,$aaaa+Y` (R164). -/
def execEorAAbsY (a : Addr) (s : State) : Result := .next ((s.aluA eor8 (.mem (.absY a))).advance (.eorAAbsY a))

/-- `EOR A,[$dp+X]` (R165). -/
def execEorAIdxInd (d : Byte) (s : State) : Result := .next ((s.aluA eor8 (.mem (.idxInd d))).advance (.eorAIdxInd d))

/-- `EOR A,[$dp]+Y` (R166). -/
def execEorAIndIdx (d : Byte) (s : State) : Result := .next ((s.aluA eor8 (.mem (.indIdx d))).advance (.eorAIndIdx d))

/-- `EOR (X),(Y)` (R167). -/
def execEorIndXIndY (s : State) : Result := .next ((s.aluMem eor8 .indX (.mem .indY)).advance .eorIndXIndY)

/-- `EOR $dd,$ds` (R168). -/
def execEorDpDp (ds : Byte) (dd : Byte) (s : State) : Result :=
  .next ((s.aluMem eor8 (.dp dd) (.mem (.dp ds))).advance (.eorDpDp ds dd))

/-- `EOR $dp,#imm` (R169). -/
def execEorDpImm (i : Byte) (d : Byte) (s : State) : Result :=
  .next ((s.aluMem eor8 (.dp d) (.imm i)).advance (.eorDpImm i d))

/-- `CMP A,#imm` (R170). -/
def execCmpAImm (i : Byte) (s : State) : Result := .next ((s.cmpReg s.a (.imm i)).advance (.cmpAImm i))

/-- `CMP A,(X)` (R171). -/
def execCmpAIndX (s : State) : Result := .next ((s.cmpReg s.a (.mem .indX)).advance .cmpAIndX)

/-- `CMP A,$dp` (R172). -/
def execCmpADp (d : Byte) (s : State) : Result := .next ((s.cmpReg s.a (.mem (.dp d))).advance (.cmpADp d))

/-- `CMP A,$dp+X` (R173). -/
def execCmpADpX (d : Byte) (s : State) : Result := .next ((s.cmpReg s.a (.mem (.dpX d))).advance (.cmpADpX d))

/-- `CMP A,$aaaa` (R174). -/
def execCmpAAbs (a : Addr) (s : State) : Result := .next ((s.cmpReg s.a (.mem (.abs a))).advance (.cmpAAbs a))

/-- `CMP A,$aaaa+X` (R175). -/
def execCmpAAbsX (a : Addr) (s : State) : Result := .next ((s.cmpReg s.a (.mem (.absX a))).advance (.cmpAAbsX a))

/-- `CMP A,$aaaa+Y` (R176). -/
def execCmpAAbsY (a : Addr) (s : State) : Result := .next ((s.cmpReg s.a (.mem (.absY a))).advance (.cmpAAbsY a))

/-- `CMP A,[$dp+X]` (R177). -/
def execCmpAIdxInd (d : Byte) (s : State) : Result := .next ((s.cmpReg s.a (.mem (.idxInd d))).advance (.cmpAIdxInd d))

/-- `CMP A,[$dp]+Y` (R178). -/
def execCmpAIndIdx (d : Byte) (s : State) : Result := .next ((s.cmpReg s.a (.mem (.indIdx d))).advance (.cmpAIndIdx d))

/-- `CMP (X),(Y)` (R179). -/
def execCmpIndXIndY (s : State) : Result := .next ((s.cmpMem .indX (.mem .indY)).advance .cmpIndXIndY)

/-- `CMP $dd,$ds` (R180). -/
def execCmpDpDp (ds : Byte) (dd : Byte) (s : State) : Result :=
  .next ((s.cmpMem (.dp dd) (.mem (.dp ds))).advance (.cmpDpDp ds dd))

/-- `CMP $dp,#imm` (R181). -/
def execCmpDpImm (i : Byte) (d : Byte) (s : State) : Result := .next ((s.cmpMem (.dp d) (.imm i)).advance (.cmpDpImm i d))

/-- `ADC A,#imm` (R182). -/
def execAdcAImm (i : Byte) (s : State) : Result := .next ((s.aluA adc8 (.imm i)).advance (.adcAImm i))

/-- `ADC A,(X)` (R183). -/
def execAdcAIndX (s : State) : Result := .next ((s.aluA adc8 (.mem .indX)).advance .adcAIndX)

/-- `ADC A,$dp` (R184). -/
def execAdcADp (d : Byte) (s : State) : Result := .next ((s.aluA adc8 (.mem (.dp d))).advance (.adcADp d))

/-- `ADC A,$dp+X` (R185). -/
def execAdcADpX (d : Byte) (s : State) : Result := .next ((s.aluA adc8 (.mem (.dpX d))).advance (.adcADpX d))

/-- `ADC A,$aaaa` (R186). -/
def execAdcAAbs (a : Addr) (s : State) : Result := .next ((s.aluA adc8 (.mem (.abs a))).advance (.adcAAbs a))

/-- `ADC A,$aaaa+X` (R187). -/
def execAdcAAbsX (a : Addr) (s : State) : Result := .next ((s.aluA adc8 (.mem (.absX a))).advance (.adcAAbsX a))

/-- `ADC A,$aaaa+Y` (R188). -/
def execAdcAAbsY (a : Addr) (s : State) : Result := .next ((s.aluA adc8 (.mem (.absY a))).advance (.adcAAbsY a))

/-- `ADC A,[$dp+X]` (R189). -/
def execAdcAIdxInd (d : Byte) (s : State) : Result := .next ((s.aluA adc8 (.mem (.idxInd d))).advance (.adcAIdxInd d))

/-- `ADC A,[$dp]+Y` (R190). -/
def execAdcAIndIdx (d : Byte) (s : State) : Result := .next ((s.aluA adc8 (.mem (.indIdx d))).advance (.adcAIndIdx d))

/-- `ADC (X),(Y)` (R191). -/
def execAdcIndXIndY (s : State) : Result := .next ((s.aluMem adc8 .indX (.mem .indY)).advance .adcIndXIndY)

/-- `ADC $dd,$ds` (R192). -/
def execAdcDpDp (ds : Byte) (dd : Byte) (s : State) : Result :=
  .next ((s.aluMem adc8 (.dp dd) (.mem (.dp ds))).advance (.adcDpDp ds dd))

/-- `ADC $dp,#imm` (R193). -/
def execAdcDpImm (i : Byte) (d : Byte) (s : State) : Result :=
  .next ((s.aluMem adc8 (.dp d) (.imm i)).advance (.adcDpImm i d))

/-- `SBC A,#imm` (R194). -/
def execSbcAImm (i : Byte) (s : State) : Result := .next ((s.aluA sbc8 (.imm i)).advance (.sbcAImm i))

/-- `SBC A,(X)` (R195). -/
def execSbcAIndX (s : State) : Result := .next ((s.aluA sbc8 (.mem .indX)).advance .sbcAIndX)

/-- `SBC A,$dp` (R196). -/
def execSbcADp (d : Byte) (s : State) : Result := .next ((s.aluA sbc8 (.mem (.dp d))).advance (.sbcADp d))

/-- `SBC A,$dp+X` (R197). -/
def execSbcADpX (d : Byte) (s : State) : Result := .next ((s.aluA sbc8 (.mem (.dpX d))).advance (.sbcADpX d))

/-- `SBC A,$aaaa` (R198). -/
def execSbcAAbs (a : Addr) (s : State) : Result := .next ((s.aluA sbc8 (.mem (.abs a))).advance (.sbcAAbs a))

/-- `SBC A,$aaaa+X` (R199). -/
def execSbcAAbsX (a : Addr) (s : State) : Result := .next ((s.aluA sbc8 (.mem (.absX a))).advance (.sbcAAbsX a))

/-- `SBC A,$aaaa+Y` (R200). -/
def execSbcAAbsY (a : Addr) (s : State) : Result := .next ((s.aluA sbc8 (.mem (.absY a))).advance (.sbcAAbsY a))

/-- `SBC A,[$dp+X]` (R201). -/
def execSbcAIdxInd (d : Byte) (s : State) : Result := .next ((s.aluA sbc8 (.mem (.idxInd d))).advance (.sbcAIdxInd d))

/-- `SBC A,[$dp]+Y` (R202). -/
def execSbcAIndIdx (d : Byte) (s : State) : Result := .next ((s.aluA sbc8 (.mem (.indIdx d))).advance (.sbcAIndIdx d))

/-- `SBC (X),(Y)` (R203). -/
def execSbcIndXIndY (s : State) : Result := .next ((s.aluMem sbc8 .indX (.mem .indY)).advance .sbcIndXIndY)

/-- `SBC $dd,$ds` (R204). -/
def execSbcDpDp (ds : Byte) (dd : Byte) (s : State) : Result :=
  .next ((s.aluMem sbc8 (.dp dd) (.mem (.dp ds))).advance (.sbcDpDp ds dd))

/-- `SBC $dp,#imm` (R205). -/
def execSbcDpImm (i : Byte) (d : Byte) (s : State) : Result :=
  .next ((s.aluMem sbc8 (.dp d) (.imm i)).advance (.sbcDpImm i d))

/-- `CMP X,#imm` (R206). -/
def execCmpXImm (i : Byte) (s : State) : Result := .next ((s.cmpReg s.x (.imm i)).advance (.cmpXImm i))

/-- `CMP X,$dp` (R207). -/
def execCmpXDp (d : Byte) (s : State) : Result := .next ((s.cmpReg s.x (.mem (.dp d))).advance (.cmpXDp d))

/-- `CMP X,$aaaa` (R208). -/
def execCmpXAbs (a : Addr) (s : State) : Result := .next ((s.cmpReg s.x (.mem (.abs a))).advance (.cmpXAbs a))

/-- `CMP Y,#imm` (R209). -/
def execCmpYImm (i : Byte) (s : State) : Result := .next ((s.cmpReg s.y (.imm i)).advance (.cmpYImm i))

/-- `CMP Y,$dp` (R210). -/
def execCmpYDp (d : Byte) (s : State) : Result := .next ((s.cmpReg s.y (.mem (.dp d))).advance (.cmpYDp d))

/-- `CMP Y,$aaaa` (R211). -/
def execCmpYAbs (a : Addr) (s : State) : Result := .next ((s.cmpReg s.y (.mem (.abs a))).advance (.cmpYAbs a))

end Sys2Proof.Machine
end

