-- ==== Sys2Proof/Machine/Arith16.lean ====
section
/-! DEFINITION. 16-bit arithmetic, multiply and divide (42_arith16.md R212 to R217): ADDW, SUBW, MUL, DIV, CMPW. -/

namespace Sys2Proof.Machine

/-- `ADDW YA,$dp` (R213). -/
def execAddw (d : Byte) (s : State) : Result := .next (((s.touchDpWord d).addYA (s.dpWord d)).advance (.addw d))

/-- `SUBW YA,$dp` (R214). -/
def execSubw (d : Byte) (s : State) : Result := .next (((s.touchDpWord d).subYA (s.dpWord d)).advance (.subw d))

/-- `MUL YA` (R215). -/
def execMul (s : State) : Result := .next (s.mulYA.advance .mul)

/-- `DIV YA,X` (R216). -/
def execDiv (s : State) : Result := .next (s.divYA.advance .div)

/-- `CMPW YA,$dp` (R217), tier E. -/
def execCmpw (d : Byte) (s : State) : Result :=
  .next (s.tierE (.cmpw d) (((s.touchDpWord d).cmpYA (s.dpWord d)).advance (.cmpw d)))

end Sys2Proof.Machine
end

