-- ==== Sys2Proof/Machine/BitOps.lean ====
section
/-! DEFINITION. Bit operations (44_bit_ops.md R235 to R249): SET1, CLR1, BBS, BBC, TSET1, TCLR1 and the tier E forms OR1, AND1, EOR1, MOV1,
NOT1. -/

namespace Sys2Proof.Machine

/-- Bit `b` of the byte at a memory-bit address, `v[b]` (R242). -/
def State.memBit (s : State) (m : Addr) (b : BitVec 3) : Bool := ((Loc.abs m).value s).getLsbD b.toNat

/-- `C <- c` after the read of a memory-bit operand (R242). -/
def State.carryFromBit (s : State) (m : Addr) (c : Bool) : State :=
  let t := (Loc.abs m).after s
  { t with psw := { t.psw with c := c } }

/-- `SET1 $dp.b` (R236). -/
def execSet1 (b : BitVec 3) (d : Byte) (s : State) : Result := .next (((Loc.dp d).modify (setBit b) s).advance (.set1 b d))

/-- `CLR1 $dp.b` (R237). -/
def execClr1 (b : BitVec 3) (d : Byte) (s : State) : Result :=
  .next (((Loc.dp d).modify (clearBit b) s).advance (.clr1 b d))

/-- `BBS $dp.b,$rel` (R238). -/
def execBbs (b : BitVec 3) (d : Byte) (r : Byte) (s : State) : Result :=
  .next (((Loc.dp d).after s).branch (.bbs b d r) (((Loc.dp d).value s).getLsbD b.toNat) r)

/-- `BBC $dp.b,$rel` (R239). -/
def execBbc (b : BitVec 3) (d : Byte) (r : Byte) (s : State) : Result :=
  .next (((Loc.dp d).after s).branch (.bbc b d r) (!((Loc.dp d).value s).getLsbD b.toNat) r)

/-- `TSET1 $aaaa` (R240). -/
def execTset1 (a : Addr) (s : State) : Result := .next (((Loc.abs a).modify testSet s).advance (.tset1 a))

/-- `TCLR1 $aaaa` (R241). -/
def execTclr1 (a : Addr) (s : State) : Result := .next (((Loc.abs a).modify testClear s).advance (.tclr1 a))

/-- `OR1 C,$mmmm.b` (R242), tier E. -/
def execOr1 (m : Addr) (b : BitVec 3) (s : State) : Result :=
  .next (s.tierE (.or1 m b) ((s.carryFromBit m (s.psw.c || s.memBit m b)).advance (.or1 m b)))

/-- `OR1 C,/$mmmm.b` (R243), tier E. -/
def execOr1Not (m : Addr) (b : BitVec 3) (s : State) : Result :=
  .next (s.tierE (.or1Not m b) ((s.carryFromBit m (s.psw.c || !s.memBit m b)).advance (.or1Not m b)))

/-- `AND1 C,$mmmm.b` (R244), tier E. -/
def execAnd1 (m : Addr) (b : BitVec 3) (s : State) : Result :=
  .next (s.tierE (.and1 m b) ((s.carryFromBit m (s.psw.c && s.memBit m b)).advance (.and1 m b)))

/-- `AND1 C,/$mmmm.b` (R245), tier E. -/
def execAnd1Not (m : Addr) (b : BitVec 3) (s : State) : Result :=
  .next (s.tierE (.and1Not m b) ((s.carryFromBit m (s.psw.c && !s.memBit m b)).advance (.and1Not m b)))

/-- `EOR1 C,$mmmm.b` (R246), tier E. -/
def execEor1 (m : Addr) (b : BitVec 3) (s : State) : Result :=
  .next (s.tierE (.eor1 m b) ((s.carryFromBit m (s.psw.c ^^ s.memBit m b)).advance (.eor1 m b)))

/-- `MOV1 C,$mmmm.b` (R247), tier E. -/
def execMov1CMem (m : Addr) (b : BitVec 3) (s : State) : Result :=
  .next (s.tierE (.mov1CMem m b) ((s.carryFromBit m (s.memBit m b)).advance (.mov1CMem m b)))

/-- `MOV1 $mmmm.b,C` (R248), tier E. -/
def execMov1MemC (m : Addr) (b : BitVec 3) (s : State) : Result :=
  .next (s.tierE (.mov1MemC m b) (((Loc.abs m).modify (carryToBit b) s).advance (.mov1MemC m b)))

/-- `NOT1 $mmmm.b` (R249), tier E. -/
def execNot1 (m : Addr) (b : BitVec 3) (s : State) : Result :=
  .next (s.tierE (.not1 m b) (((Loc.abs m).modify (flipBit b) s).advance (.not1 m b)))

end Sys2Proof.Machine
end

