-- ==== Sys2Proof/Machine/Branch.lean ====
section
/-! DEFINITION. Branches (45_branches.md R250 to R259). -/

namespace Sys2Proof.Machine

/-- `BPL $rel` (R251). -/
def execBpl (r : Byte) (s : State) : Result := .next (s.branch (.bpl r) (!s.psw.n) r)

/-- `BMI $rel` (R252). -/
def execBmi (r : Byte) (s : State) : Result := .next (s.branch (.bmi r) s.psw.n r)

/-- `BVC $rel` (R253). -/
def execBvc (r : Byte) (s : State) : Result := .next (s.branch (.bvc r) (!s.psw.v) r)

/-- `BVS $rel` (R254). -/
def execBvs (r : Byte) (s : State) : Result := .next (s.branch (.bvs r) s.psw.v r)

/-- `BCC $rel` (R255). -/
def execBcc (r : Byte) (s : State) : Result := .next (s.branch (.bcc r) (!s.psw.c) r)

/-- `BCS $rel` (R256). -/
def execBcs (r : Byte) (s : State) : Result := .next (s.branch (.bcs r) s.psw.c r)

/-- `BNE $rel` (R257). -/
def execBne (r : Byte) (s : State) : Result := .next (s.branch (.bne r) (!s.psw.z) r)

/-- `BEQ $rel` (R258). -/
def execBeq (r : Byte) (s : State) : Result := .next (s.branch (.beq r) s.psw.z r)

/-- `BRA $rel` (R259): always taken, at the one cost R346 gives it (log 7). -/
def execBra (r : Byte) (s : State) : Result := .next (s.goto (.bra r) false (s.nextPc (.bra r) + sext8 r))

end Sys2Proof.Machine
end

