-- ==== Sys2Proof/Machine/Control.lean ====
section
/-! DEFINITION. Control flow (46_control_flow.md R260 to R271): CALL, RET, JMP, DBNZ, CBNE, and the tier E forms TCALL, PCALL, RETI. -/

namespace Sys2Proof.Machine

/-- `CALL $aaaa` (R261). -/
def execCall (a : Addr) (s : State) : Result := .next ((s.pushWord (s.nextPc (.call a))).goto (.call a) false a)

/-- `RET` (R262). -/
def execRet (s : State) : Result := .next (s.popped.popped.goto .ret false s.popWord)

/-- `JMP $aaaa` (R263). -/
def execJmpAbs (a : Addr) (s : State) : Result := .next (s.goto (.jmpAbs a) false a)

/-- The pointer's address of JMP [$aaaa+X] (20_memory.md R53). -/
def State.jmpPointer (s : State) (a : Addr) : Addr := a + s.x.setWidth 16

/-- `JMP [$aaaa+X]` (R264). -/
def execJmpIdxInd (a : Addr) (s : State) : Result :=
  .next ((s.touchWord (s.jmpPointer a)).goto (.jmpIdxInd a) false (s.peekWord (s.jmpPointer a)))

/-- `DBNZ Y,$rel` (R265). -/
def execDbnzY (r : Byte) (s : State) : Result := .next (State.branch { s with y := s.y - 1 } (.dbnzY r) (s.y - 1 != 0) r)

/-- `DBNZ $dp,$rel` (R266). -/
def execDbnzDp (d : Byte) (r : Byte) (s : State) : Result :=
  .next (((Loc.dp d).modify decrement s).branch (.dbnzDp d r) ((Loc.dp d).value s - 1 != 0) r)

/-- `CBNE $dp,$rel` (R267). -/
def execCbneDp (d : Byte) (r : Byte) (s : State) : Result :=
  .next (((Loc.dp d).after s).branch (.cbneDp d r) (s.a != (Loc.dp d).value s) r)

/-- `CBNE $dp+X,$rel` (R268). -/
def execCbneDpX (d : Byte) (r : Byte) (s : State) : Result :=
  .next (((Loc.dpX d).after s).branch (.cbneDpX d r) (s.a != (Loc.dpX d).value s) r)

/-- The vector address of TCALL n, `0xFFDE - 2 * n` (R269). -/
def callVector (n : BitVec 4) : Addr := trapVector - 2 * n.setWidth 16

/-- TCALL's push of the return address, before the vector is read (R269). -/
def State.tableCall (s : State) (n : BitVec 4) : State := s.pushWord (s.nextPc (.tcall n))

/-- `TCALL n` (R269), tier E. -/
def execTcall (n : BitVec 4) (s : State) : Result :=
  .next (s.tierE (.tcall n) (((s.tableCall n).touchWord (callVector n)).goto (.tcall n) false ((s.tableCall n).peekWord (callVector n))))

/-- `PCALL $up` (R270), tier E. -/
def execPcall (u : Byte) (s : State) : Result :=
  .next (s.tierE (.pcall u) ((s.pushWord (s.nextPc (.pcall u))).goto (.pcall u) false (wordOf 0xFF u)))

/-- `RETI` (R271), tier E. -/
def execReti (s : State) : Result := .next (s.tierE .reti (s.leaveTrap.goto .reti false s.trapReturn))

end Sys2Proof.Machine
end

