-- ==== Sys2Proof/Machine/DataMove.lean ====
section
/-! DEFINITION. Data movement (40_data_movement.md R75 to R127): MOV, MOVW, XCN, PUSH, POP. Moves into A, X and Y set N and Z; moves
into memory, into SP and onto the stack set no flag (R75). -/

namespace Sys2Proof.Machine

/-- `A <- v; setNZ8(v)` (R75). -/
def State.moveToA (s : State) (v : Byte) : State := State.setNZ8 { s with a := v } v

/-- `X <- v; setNZ8(v)` (R75). -/
def State.moveToX (s : State) (v : Byte) : State := State.setNZ8 { s with x := v } v

/-- `Y <- v; setNZ8(v)` (R75). -/
def State.moveToY (s : State) (v : Byte) : State := State.setNZ8 { s with y := v } v

/-- MOV of a source operand into A. -/
def State.loadA (s : State) (o : Src) : State := (o.after s).moveToA (o.value s)

/-- MOV of a source operand into X. -/
def State.loadX (s : State) (o : Src) : State := (o.after s).moveToX (o.value s)

/-- MOV of a source operand into Y. -/
def State.loadY (s : State) (o : Src) : State := (o.after s).moveToY (o.value s)

/-- `X <- (X + 1) mod 256`, the step of the `(X)+` forms (20_memory.md R48). -/
def State.stepX (s : State) : State := { s with x := s.x + 1 }

/-- The byte with its nibbles exchanged (R119). -/
def swapNibbles (v : Byte) : Byte := (v.extractLsb' 0 4 : BitVec 4) ++ (v.extractLsb' 4 4 : BitVec 4)

/-- `MOV A,#imm` (R76). -/
def execMovAImm (i : Byte) (s : State) : Result := .next ((s.loadA (.imm i)).advance (.movAImm i))

/-- `MOV A,(X)` (R77). -/
def execMovAIndX (s : State) : Result := .next ((s.loadA (.mem .indX)).advance .movAIndX)

/-- `MOV A,(X)+` (R78). -/
def execMovAIndXInc (s : State) : Result :=
  .next ((((Loc.indX.after s).stepX).moveToA (Loc.indX.value s)).advance .movAIndXInc)

/-- `MOV A,$dp` (R79). -/
def execMovADp (d : Byte) (s : State) : Result := .next ((s.loadA (.mem (.dp d))).advance (.movADp d))

/-- `MOV A,$dp+X` (R80). -/
def execMovADpX (d : Byte) (s : State) : Result := .next ((s.loadA (.mem (.dpX d))).advance (.movADpX d))

/-- `MOV A,$aaaa` (R81). -/
def execMovAAbs (a : Addr) (s : State) : Result := .next ((s.loadA (.mem (.abs a))).advance (.movAAbs a))

/-- `MOV A,$aaaa+X` (R82). -/
def execMovAAbsX (a : Addr) (s : State) : Result := .next ((s.loadA (.mem (.absX a))).advance (.movAAbsX a))

/-- `MOV A,$aaaa+Y` (R83). -/
def execMovAAbsY (a : Addr) (s : State) : Result := .next ((s.loadA (.mem (.absY a))).advance (.movAAbsY a))

/-- `MOV A,[$dp+X]` (R84). -/
def execMovAIdxInd (d : Byte) (s : State) : Result := .next ((s.loadA (.mem (.idxInd d))).advance (.movAIdxInd d))

/-- `MOV A,[$dp]+Y` (R85). -/
def execMovAIndIdx (d : Byte) (s : State) : Result := .next ((s.loadA (.mem (.indIdx d))).advance (.movAIndIdx d))

/-- `MOV X,#imm` (R86). -/
def execMovXImm (i : Byte) (s : State) : Result := .next ((s.loadX (.imm i)).advance (.movXImm i))

/-- `MOV X,$dp` (R87). -/
def execMovXDp (d : Byte) (s : State) : Result := .next ((s.loadX (.mem (.dp d))).advance (.movXDp d))

/-- `MOV X,$dp+Y` (R88). -/
def execMovXDpY (d : Byte) (s : State) : Result := .next ((s.loadX (.mem (.dpY d))).advance (.movXDpY d))

/-- `MOV X,$aaaa` (R89). -/
def execMovXAbs (a : Addr) (s : State) : Result := .next ((s.loadX (.mem (.abs a))).advance (.movXAbs a))

/-- `MOV Y,#imm` (R90). -/
def execMovYImm (i : Byte) (s : State) : Result := .next ((s.loadY (.imm i)).advance (.movYImm i))

/-- `MOV Y,$dp` (R91). -/
def execMovYDp (d : Byte) (s : State) : Result := .next ((s.loadY (.mem (.dp d))).advance (.movYDp d))

/-- `MOV Y,$dp+X` (R92). -/
def execMovYDpX (d : Byte) (s : State) : Result := .next ((s.loadY (.mem (.dpX d))).advance (.movYDpX d))

/-- `MOV Y,$aaaa` (R93). -/
def execMovYAbs (a : Addr) (s : State) : Result := .next ((s.loadY (.mem (.abs a))).advance (.movYAbs a))

/-- `MOV (X),A` (R94). -/
def execMovIndXA (s : State) : Result := .next ((Loc.indX.store s.a s).advance .movIndXA)

/-- `MOV (X)+,A` (R95). -/
def execMovIndXIncA (s : State) : Result := .next (((Loc.indX.store s.a s).stepX).advance .movIndXIncA)

/-- `MOV $dp,A` (R96). -/
def execMovDpA (d : Byte) (s : State) : Result := .next (((Loc.dp d).store s.a s).advance (.movDpA d))

/-- `MOV $dp+X,A` (R97). -/
def execMovDpXA (d : Byte) (s : State) : Result := .next (((Loc.dpX d).store s.a s).advance (.movDpXA d))

/-- `MOV $aaaa,A` (R98). -/
def execMovAbsA (a : Addr) (s : State) : Result := .next (((Loc.abs a).store s.a s).advance (.movAbsA a))

/-- `MOV $aaaa+X,A` (R99). -/
def execMovAbsXA (a : Addr) (s : State) : Result := .next (((Loc.absX a).store s.a s).advance (.movAbsXA a))

/-- `MOV $aaaa+Y,A` (R100). -/
def execMovAbsYA (a : Addr) (s : State) : Result := .next (((Loc.absY a).store s.a s).advance (.movAbsYA a))

/-- `MOV [$dp+X],A` (R101). -/
def execMovIdxIndA (d : Byte) (s : State) : Result := .next (((Loc.idxInd d).store s.a s).advance (.movIdxIndA d))

/-- `MOV [$dp]+Y,A` (R102). -/
def execMovIndIdxA (d : Byte) (s : State) : Result := .next (((Loc.indIdx d).store s.a s).advance (.movIndIdxA d))

/-- `MOV $dp,X` (R103). -/
def execMovDpX (d : Byte) (s : State) : Result := .next (((Loc.dp d).store s.x s).advance (.movDpX d))

/-- `MOV $dp+Y,X` (R104). -/
def execMovDpYX (d : Byte) (s : State) : Result := .next (((Loc.dpY d).store s.x s).advance (.movDpYX d))

/-- `MOV $aaaa,X` (R105). -/
def execMovAbsX (a : Addr) (s : State) : Result := .next (((Loc.abs a).store s.x s).advance (.movAbsX a))

/-- `MOV $dp,Y` (R106). -/
def execMovDpY (d : Byte) (s : State) : Result := .next (((Loc.dp d).store s.y s).advance (.movDpY d))

/-- `MOV $dp+X,Y` (R107). -/
def execMovDpXY (d : Byte) (s : State) : Result := .next (((Loc.dpX d).store s.y s).advance (.movDpXY d))

/-- `MOV $aaaa,Y` (R108). -/
def execMovAbsY (a : Addr) (s : State) : Result := .next (((Loc.abs a).store s.y s).advance (.movAbsY a))

/-- `MOV A,X` (R109). -/
def execMovAX (s : State) : Result := .next ((s.moveToA s.x).advance .movAX)

/-- `MOV A,Y` (R110). -/
def execMovAY (s : State) : Result := .next ((s.moveToA s.y).advance .movAY)

/-- `MOV X,A` (R111). -/
def execMovXA (s : State) : Result := .next ((s.moveToX s.a).advance .movXA)

/-- `MOV Y,A` (R112). -/
def execMovYA (s : State) : Result := .next ((s.moveToY s.a).advance .movYA)

/-- `MOV X,SP` (R113). -/
def execMovXSp (s : State) : Result := .next ((s.moveToX s.sp).advance .movXSp)

/-- `MOV SP,X` (R114). -/
def execMovSpX (s : State) : Result := .next (({ s with sp := s.x }).advance .movSpX)

/-- `MOV $dd,$ds` (R115). -/
def execMovDpDp (ds : Byte) (dd : Byte) (s : State) : Result :=
  .next (((Loc.dp dd).store ((Loc.dp ds).value s) ((Loc.dp ds).after s)).advance (.movDpDp ds dd))

/-- `MOV $dp,#imm` (R116). -/
def execMovDpImm (i : Byte) (d : Byte) (s : State) : Result := .next (((Loc.dp d).store i s).advance (.movDpImm i d))

/-- `MOVW YA,$dp` (R117). -/
def execMovwYADp (d : Byte) (s : State) : Result :=
  .next ((((s.touchDpWord d).setYA (s.dpWord d)).setNZ16 (s.dpWord d)).advance (.movwYADp d))

/-- `MOVW $dp,YA` (R118). -/
def execMovwDpYA (d : Byte) (s : State) : Result := .next ((s.dpWordWrite d s.ya).advance (.movwDpYA d))

/-- `XCN A` (R119). -/
def execXcn (s : State) : Result := .next ((s.moveToA (swapNibbles s.a)).advance .xcn)

/-- `PUSH A` (R120). -/
def execPushA (s : State) : Result := .next ((s.push s.a).advance .pushA)

/-- `PUSH X` (R121). -/
def execPushX (s : State) : Result := .next ((s.push s.x).advance .pushX)

/-- `PUSH Y` (R122). -/
def execPushY (s : State) : Result := .next ((s.push s.y).advance .pushY)

/-- `PUSH PSW` (R123). -/
def execPushPsw (s : State) : Result := .next ((s.push s.psw.toByte).advance .pushPsw)

/-- `POP A` (R124). -/
def execPopA (s : State) : Result := .next (({ s.popped with a := s.popValue }).advance .popA)

/-- `POP X` (R125). -/
def execPopX (s : State) : Result := .next (({ s.popped with x := s.popValue }).advance .popX)

/-- `POP Y` (R126). -/
def execPopY (s : State) : Result := .next (({ s.popped with y := s.popValue }).advance .popY)

/-- `POP PSW` (R127). -/
def execPopPsw (s : State) : Result := .next (({ s.popped with psw := Psw.ofByte s.popValue }).advance .popPsw)

end Sys2Proof.Machine
end

