-- ==== Sys2Proof/Machine/FlagsMisc.lean ====
section
/-! DEFINITION. Flag and system instructions (47_flags_misc.md R272 to R286). -/

namespace Sys2Proof.Machine

/-- `CLRP` (R273). -/
def execClrp (s : State) : Result := .next (({ s with psw := { s.psw with p := false } }).advance .clrp)

/-- `SETP` (R274). -/
def execSetp (s : State) : Result := .next (({ s with psw := { s.psw with p := true } }).advance .setp)

/-- `CLRC` (R275). -/
def execClrc (s : State) : Result := .next (({ s with psw := { s.psw with c := false } }).advance .clrc)

/-- `SETC` (R276). -/
def execSetc (s : State) : Result := .next (({ s with psw := { s.psw with c := true } }).advance .setc)

/-- `NOTC` (R277). -/
def execNotc (s : State) : Result := .next (({ s with psw := { s.psw with c := !s.psw.c } }).advance .notc)

/-- `CLRV` (R278). -/
def execClrv (s : State) : Result := .next (s.clearV.advance .clrv)

/-- `EI` (R279). -/
def execEi (s : State) : Result := .next (({ s with psw := { s.psw with i := true } }).advance .ei)

/-- `DI` (R280). -/
def execDi (s : State) : Result := .next (({ s with psw := { s.psw with i := false } }).advance .di)

/-- `NOP` (R281). -/
def execNop (s : State) : Result := .next (s.advance .nop)

/-- `SLEEP` (R282). -/
def execSleep (s : State) : Result := .next (s.halt.advance .sleep)

/-- `STOP` (R283). -/
def execStop (s : State) : Result := .next (s.halt.advance .stop)

/-- BRK's entry of the trap, before the vector is read (R284). -/
def State.breakTrap (s : State) : State := s.enterTrap (s.nextPc .brk)

/-- `BRK` (R284). -/
def execBrk (s : State) : Result :=
  .next ((s.breakTrap.touchWord trapVector).goto .brk false (s.breakTrap.peekWord trapVector))

/-- `DAA A` (R285), tier E. -/
def execDaa (s : State) : Result := .next (s.tierE .daa (s.daa.advance .daa))

/-- `DAS A` (R286), tier E. -/
def execDas (s : State) : Result := .next (s.tierE .das (s.das.advance .das))

end Sys2Proof.Machine
end

