-- ==== Sys2Proof/Machine/Shift.lean ====
section
/-! DEFINITION. Shifts and rotates (43_shift_rotate.md R218 to R234): ASL, LSR, ROL, ROR. -/

namespace Sys2Proof.Machine

/-- `A <- f(A)` (R219 and the like; R288, R294). -/
def State.modifyA (s : State) (f : Byte → State → Byte × State) : State :=
  let r := f s.a s
  { r.2 with a := r.1 }

/-- `ASL A` (R219). -/
def execAslA (s : State) : Result := .next ((s.modifyA asl8).advance .aslA)

/-- `ASL $dp` (R220). -/
def execAslDp (d : Byte) (s : State) : Result := .next (((Loc.dp d).modify asl8 s).advance (.aslDp d))

/-- `ASL $dp+X` (R221). -/
def execAslDpX (d : Byte) (s : State) : Result := .next (((Loc.dpX d).modify asl8 s).advance (.aslDpX d))

/-- `ASL $aaaa` (R222). -/
def execAslAbs (a : Addr) (s : State) : Result := .next (((Loc.abs a).modify asl8 s).advance (.aslAbs a))

/-- `LSR A` (R223). -/
def execLsrA (s : State) : Result := .next ((s.modifyA lsr8).advance .lsrA)

/-- `LSR $dp` (R224). -/
def execLsrDp (d : Byte) (s : State) : Result := .next (((Loc.dp d).modify lsr8 s).advance (.lsrDp d))

/-- `LSR $dp+X` (R225). -/
def execLsrDpX (d : Byte) (s : State) : Result := .next (((Loc.dpX d).modify lsr8 s).advance (.lsrDpX d))

/-- `LSR $aaaa` (R226). -/
def execLsrAbs (a : Addr) (s : State) : Result := .next (((Loc.abs a).modify lsr8 s).advance (.lsrAbs a))

/-- `ROL A` (R227). -/
def execRolA (s : State) : Result := .next ((s.modifyA rol8).advance .rolA)

/-- `ROL $dp` (R228). -/
def execRolDp (d : Byte) (s : State) : Result := .next (((Loc.dp d).modify rol8 s).advance (.rolDp d))

/-- `ROL $dp+X` (R229). -/
def execRolDpX (d : Byte) (s : State) : Result := .next (((Loc.dpX d).modify rol8 s).advance (.rolDpX d))

/-- `ROL $aaaa` (R230). -/
def execRolAbs (a : Addr) (s : State) : Result := .next (((Loc.abs a).modify rol8 s).advance (.rolAbs a))

/-- `ROR A` (R231). -/
def execRorA (s : State) : Result := .next ((s.modifyA ror8).advance .rorA)

/-- `ROR $dp` (R232). -/
def execRorDp (d : Byte) (s : State) : Result := .next (((Loc.dp d).modify ror8 s).advance (.rorDp d))

/-- `ROR $dp+X` (R233). -/
def execRorDpX (d : Byte) (s : State) : Result := .next (((Loc.dpX d).modify ror8 s).advance (.rorDpX d))

/-- `ROR $aaaa` (R234). -/
def execRorAbs (a : Addr) (s : State) : Result := .next (((Loc.abs a).modify ror8 s).advance (.rorAbs a))

end Sys2Proof.Machine
end

