-- ==== Sys2Proof/Machine/IncDec.lean ====
section
/-! DEFINITION. Increment and decrement (48_inc_dec.md R287 to R301): INC, DEC, INCW, DECW. -/

namespace Sys2Proof.Machine

/-- `X <- f(X)` (R289, R295). -/
def State.modifyX (s : State) (f : Byte → State → Byte × State) : State :=
  let r := f s.x s
  { r.2 with x := r.1 }

/-- `Y <- f(Y)` (R290, R296). -/
def State.modifyY (s : State) (f : Byte → State → Byte × State) : State :=
  let r := f s.y s
  { r.2 with y := r.1 }

/-- The direct-page word at `d` read, changed to `w`, written back low byte first, N and Z from it (R300, R301). -/
def State.modifyDpWord (s : State) (d : Byte) (w : Addr) : State := ((s.touchDpWord d).dpWordWrite d w).setNZ16 w

/-- `INC A` (R288). -/
def execIncA (s : State) : Result := .next ((s.modifyA inc8).advance .incA)

/-- `INC X` (R289). -/
def execIncX (s : State) : Result := .next ((s.modifyX inc8).advance .incX)

/-- `INC Y` (R290). -/
def execIncY (s : State) : Result := .next ((s.modifyY inc8).advance .incY)

/-- `INC $dp` (R291). -/
def execIncDp (d : Byte) (s : State) : Result := .next (((Loc.dp d).modify inc8 s).advance (.incDp d))

/-- `INC $dp+X` (R292). -/
def execIncDpX (d : Byte) (s : State) : Result := .next (((Loc.dpX d).modify inc8 s).advance (.incDpX d))

/-- `INC $aaaa` (R293). -/
def execIncAbs (a : Addr) (s : State) : Result := .next (((Loc.abs a).modify inc8 s).advance (.incAbs a))

/-- `DEC A` (R294). -/
def execDecA (s : State) : Result := .next ((s.modifyA dec8).advance .decA)

/-- `DEC X` (R295). -/
def execDecX (s : State) : Result := .next ((s.modifyX dec8).advance .decX)

/-- `DEC Y` (R296). -/
def execDecY (s : State) : Result := .next ((s.modifyY dec8).advance .decY)

/-- `DEC $dp` (R297). -/
def execDecDp (d : Byte) (s : State) : Result := .next (((Loc.dp d).modify dec8 s).advance (.decDp d))

/-- `DEC $dp+X` (R298). -/
def execDecDpX (d : Byte) (s : State) : Result := .next (((Loc.dpX d).modify dec8 s).advance (.decDpX d))

/-- `DEC $aaaa` (R299). -/
def execDecAbs (a : Addr) (s : State) : Result := .next (((Loc.abs a).modify dec8 s).advance (.decAbs a))

/-- `INCW $dp` (R300). -/
def execIncw (d : Byte) (s : State) : Result := .next ((s.modifyDpWord d (s.dpWord d + 1)).advance (.incw d))

/-- `DECW $dp` (R301). -/
def execDecw (d : Byte) (s : State) : Result := .next ((s.modifyDpWord d (s.dpWord d - 1)).advance (.decw d))

end Sys2Proof.Machine
end

