-- ==== Sys2Proof/Machine/Fetch.lean ====
section
/-! DEFINITION. Fetching an instruction (20_memory.md R62, R63): opcode byte, byte 1, byte 2, exactly the instruction's length,
through `MemRead`; an unknown opcode's operand bytes are not read (60_exceptions.md R304, R306). -/

namespace Sys2Proof.Machine

/-- The bytes the fetch reads at the program counter: the opcode and the operand bytes, 0 for each byte not read (log 13). -/
structure FetchBytes where
  op : Byte
  b1 : Byte
  b2 : Byte
  deriving DecidableEq, Repr

/-- The state after the opcode byte is read. -/
def State.afterOp (s : State) : State := s.touch s.pc

/-- How many bytes the fetch reads: the length, or only the opcode byte where it is unknown (R304). -/
def State.fetchLength (s : State) : Nat :=
  if isTierE (s.peek s.pc) ∧ ¬s.params.extOpcodes then 1 else lengthOf (s.peek s.pc)

/-- The state after byte 1 is read, if it is. -/
def State.afterB1 (s : State) : State := if s.fetchLength ≥ 2 then s.afterOp.touch (s.pc + 1) else s.afterOp

/-- The state after the fetch. -/
def State.afterFetch (s : State) : State := if s.fetchLength = 3 then s.afterB1.touch (s.pc + 2) else s.afterB1

/-- The bytes of the fetch, each read in the state after the reads before it. -/
def State.fetchBytes (s : State) : FetchBytes :=
  { op := s.peek s.pc,
    b1 := if s.fetchLength ≥ 2 then s.afterOp.peek (s.pc + 1) else 0,
    b2 := if s.fetchLength = 3 then s.afterB1.peek (s.pc + 2) else 0 }

/-- The instruction at the program counter. -/
def State.fetched (s : State) : Instr := decodeOp s.fetchBytes.op s.fetchBytes.b1 s.fetchBytes.b2

/-- RAM with the three bytes `b` laid out from `pc` on, raw (used to place an instruction for `step` to fetch). -/
def State.placeBytes (s : State) (b : FetchBytes) : State :=
  { s with ram := ((s.ram.write s.pc b.op).write (s.pc + 1) b.b1).write (s.pc + 2) b.b2 }

end Sys2Proof.Machine
end

