-- ==== Sys2Proof/Machine/Scheduler.lean ====
section
/-! DEFINITION. What a machine step does after the CPU's instruction (60_exceptions.md R312 items 3 and 4): the timers' tick and the
samples that fall due. -/

namespace Sys2Proof.Machine

/-- `TimersTick()` with the new cycle (R312 item 3, R318). -/
def State.timersTick (s : State) : State := { s with timers := tickTimers s.cycle s.timers }

/-- One turn of the loop of R312 item 4: the pair is produced with `sample_counter` as it was (R312), then both counters move
on. -/
def State.produceSample (s : State) : State :=
  let r := dspSample Config.tables s.ram s.sampleCounter s.dsp
  { s with dsp := r.1, out := s.out ++ [r.2], sampleCounter := s.sampleCounter + 1,
           nextSampleCycle := s.nextSampleCycle + 64 }

/-- The loop of R312 item 4, `while cycle >= next_sample_cycle`, taking at most `fuel` turns (log 14). -/
def produceSamples : Nat → State → State
  | 0, s => s
  | fuel + 1, s => if s.cycle ≥ s.nextSampleCycle then produceSamples fuel s.produceSample else s

/-- The end of a machine step (R312 items 3 and 4). Where the instruction raised UnknownOpcode the step has already ended
(R304). Every turn moves `next_sample_cycle` on by 64, so `cycle + 1` turns are more than the loop can take. -/
def State.endStep (s : State) : State :=
  match s.run with
  | .faulted => s
  | .running | .halted => produceSamples (s.cycle + 1 - s.nextSampleCycle) s.timersTick

end Sys2Proof.Machine
end

