-- ==== Sys2Proof/Machine/Step.lean ====
section
/-! DEFINITION. One machine step (60_exceptions.md R312, R306): fetch, execute, then the timers and the due samples. -/

namespace Sys2Proof.Machine

/-- One machine step, defined when `run = running` (R312); a halted or faulted CPU has none (R20; log 10). -/
def step (s : State) : Host.Outcome State Fault Refusal :=
  match s.run with
  | .halted => .fault .cpuHalted
  | .faulted => .fault .cpuFaulted
  | .running =>
    match exec s.fetched s.afterFetch with
    | .next t => .next t.endStep
    | .fault r => .fault r
    | .refused r => .refused r

/-- The state with the instruction of a row of spec/opcode_table.json stored at the program counter, where `step` fetches next
(log 4): its bits numbered as the table numbers them, those from `nbits` up 0, and a CPU that has a step. -/
def State.withFetchWord (s : State) (nbits w : Nat) : State :=
  match tableBytes nbits w with
  | [b0, b1, b2] => State.placeBytes { s with run := .running } { op := b0, b1 := b1, b2 := b2 }
  | _ => s

end Sys2Proof.Machine
end

