-- ==== Sys2Proof/Machine/Launch.lean ====
section
/-! DEFINITION. Launch from a snapshot (70_reset_and_hazards.md R340, R341; 10_state.md R29): the machine's only way into
existence. The snapshot is the launch state, a parameter of the model (00_scope.md R8). -/

namespace Sys2Proof.Machine

/-- The launch state: what a snapshot holds (R340). -/
structure Snapshot where
  pc : Addr
  a : Byte
  x : Byte
  y : Byte
  psw : Byte
  sp : Byte
  ram : Memory
  dsp : Vector Byte 128
  deriving DecidableEq, Repr

/-- Steps 1 and 2 of R340: the launch state, and the fixed value of everything else (R29). -/
def State.launch (p : Params) (k : Snapshot) : State :=
  { a := k.a, x := k.x, y := k.y, sp := k.sp, pc := k.pc, psw := Psw.ofByte k.psw,
    run := .running, faultInfo := none, ram := k.ram, dspAddr := (k.ram.read 0x00F2).setWidth 7,
    timers := Vector.replicate 3 Timer.off,
    dsp := { regs := k.dsp, voices := Vector.replicate 8 Voice.off },
    cycle := 0, sampleCounter := 0, nextSampleCycle := 64, out := [], draws := 0, params := p }

/-- Step 3 of R340: the host's fabric writes before the first machine step, in the order the host chooses (R341). -/
def State.hostWrites (s : State) (ws : List (Addr × Byte)) : State := ws.foldl (fun t w => t.memWrite w.1 w.2) s

/-- The all-zero snapshot, from which `State.reset` is launched (log 1, 2, 3). -/
def Snapshot.zero : Snapshot :=
  { pc := 0, a := 0, x := 0, y := 0, psw := 0, sp := 0, ram := [], dsp := Vector.replicate 128 0 }

end Sys2Proof.Machine
end

