-- ==== Sys2Proof/Safety.lean ====
section
/-! DEFINITION. The terms the statements are made in: the invariants of the machine, who may write which register and flag
(10_state.md R16, R19), where an instruction stores, and the operand forms of the instructions of one shape. -/

namespace Sys2Proof.Machine

/-! ### Invariants -/

/-- RAM is in its canonical form. -/
abbrev State.MemoryOk (s : State) : Prop := s.ram.wf = true

/-- A disabled timer has every field 0 (10_state.md R24). -/
abbrev State.TimersOk (s : State) : Prop := ∀ i : Fin 3, (s.timers.get i).enabled = false → s.timers.get i = Timer.off

/-- A legal voice between samples: the envelope is 0 to 2047, the phase accumulator below 0x10000 (10_state.md R26). -/
abbrev Voice.Ok (x : Voice) : Prop := 0 ≤ x.env ∧ x.env ≤ 2047 ∧ x.pitchCounter < 0x10000

/-- Every voice is legal (R26). -/
abbrev State.VoicesOk (s : State) : Prop := ∀ v : Fin 8, (s.dsp.voice v).Ok

/-- The sample clock is where 64 cycles a sample put it, and one pair has been put out per sample (60_exceptions.md R312, R313;
10_state.md R27). -/
abbrev State.SchedulerOk (s : State) : Prop :=
  s.nextSampleCycle = 64 * (s.sampleCounter + 1) ∧ 64 * s.sampleCounter ≤ s.cycle ∧ s.cycle < s.nextSampleCycle ∧
    s.out.length = s.sampleCounter

/-- `fault_info` has a value exactly when the CPU is faulted (10_state.md R20, R29). -/
abbrev State.FaultOk (s : State) : Prop := s.faultInfo.isSome = true ↔ s.run = .faulted

/-- The invariants together. -/
structure State.Inv (s : State) : Prop where
  memory : s.MemoryOk
  timers : s.TimersOk
  voices : s.VoicesOk
  scheduler : s.SchedulerOk
  fault : s.FaultOk

/-- An address whose read is a plain read of RAM: none of 0x00F3, 0x00FD, 0x00FE, 0x00FF (20_memory.md R31, R37). -/
abbrev PlainAddr (a : Addr) : Prop := a ≠ 0x00F3#16 ∧ a ≠ 0x00FD#16 ∧ a ≠ 0x00FE#16 ∧ a ≠ 0x00FF#16

/-- Voice `v` as `KeyOn(v)` has it when it decodes the first block: enabled, at the directory's start address, with `prev_brr`
and `prev_interp` already cleared (60_exceptions.md R326, R329; the order is the spec's decision D36). -/
def Dsp.startedVoice (d : Dsp) (ram : Memory) (v : Fin 8) : Voice :=
  { d.voice v with
    enabled := true
    curAddr := dirStart ram (d.reg 0x5D#7) (d.reg (voiceReg v 4))
    prevInterp := #v[0, 0, 0]
    prevBrr := #v[0, 0] }

/-! ### Registers and their writers -/

/-- The byte registers. -/
inductive Reg where
  | a | x | y | sp
  deriving DecidableEq, Repr

/-- The value of a byte register. -/
def State.reg (s : State) : Reg → Byte
  | .a => s.a
  | .x => s.x
  | .y => s.y
  | .sp => s.sp

/-- A byte register replaced. -/
def State.setReg (s : State) : Reg → Byte → State
  | .a, v => { s with a := v }
  | .x, v => { s with x := v }
  | .y, v => { s with y := v }
  | .sp, v => { s with sp := v }

end Sys2Proof.Machine

namespace Sys2Proof

open Sys2Proof.Machine

/-- The writers of `A` (R16). -/
def Instr.writesA : Instr → Bool
  | .movAImm _ | .movAIndX | .movAIndXInc | .movADp _ | .movADpX _ | .movAAbs _ | .movAAbsX _ | .movAAbsY _
  | .movAIdxInd _ | .movAIndIdx _ | .movAX | .movAY | .movwYADp _ | .xcn | .popA | .orAImm _ | .orAIndX
  | .orADp _ | .orADpX _ | .orAAbs _ | .orAAbsX _ | .orAAbsY _ | .orAIdxInd _ | .orAIndIdx _ | .andAImm _
  | .andAIndX | .andADp _ | .andADpX _ | .andAAbs _ | .andAAbsX _ | .andAAbsY _ | .andAIdxInd _ | .andAIndIdx _
  | .eorAImm _ | .eorAIndX | .eorADp _ | .eorADpX _ | .eorAAbs _ | .eorAAbsX _ | .eorAAbsY _ | .eorAIdxInd _
  | .eorAIndIdx _ | .adcAImm _ | .adcAIndX | .adcADp _ | .adcADpX _ | .adcAAbs _ | .adcAAbsX _ | .adcAAbsY _
  | .adcAIdxInd _ | .adcAIndIdx _ | .sbcAImm _ | .sbcAIndX | .sbcADp _ | .sbcADpX _ | .sbcAAbs _ | .sbcAAbsX _
  | .sbcAAbsY _ | .sbcAIdxInd _ | .sbcAIndIdx _ | .addw _ | .subw _ | .mul | .div | .aslA | .lsrA | .rolA
  | .rorA | .daa | .das | .incA | .decA => true
  | .movXImm _ | .movXDp _ | .movXDpY _ | .movXAbs _ | .movYImm _ | .movYDp _ | .movYDpX _ | .movYAbs _
  | .movIndXA | .movIndXIncA | .movDpA _ | .movDpXA _ | .movAbsA _ | .movAbsXA _ | .movAbsYA _ | .movIdxIndA _
  | .movIndIdxA _ | .movDpX _ | .movDpYX _ | .movAbsX _ | .movDpY _ | .movDpXY _ | .movAbsY _ | .movXA | .movYA
  | .movXSp | .movSpX | .movDpDp _ _ | .movDpImm _ _ | .movwDpYA _ | .pushA | .pushX | .pushY | .pushPsw
  | .popX | .popY | .popPsw | .orIndXIndY | .orDpDp _ _ | .orDpImm _ _ | .andIndXIndY | .andDpDp _ _
  | .andDpImm _ _ | .eorIndXIndY | .eorDpDp _ _ | .eorDpImm _ _ | .cmpAImm _ | .cmpAIndX | .cmpADp _
  | .cmpADpX _ | .cmpAAbs _ | .cmpAAbsX _ | .cmpAAbsY _ | .cmpAIdxInd _ | .cmpAIndIdx _ | .cmpIndXIndY
  | .cmpDpDp _ _ | .cmpDpImm _ _ | .adcIndXIndY | .adcDpDp _ _ | .adcDpImm _ _ | .sbcIndXIndY | .sbcDpDp _ _
  | .sbcDpImm _ _ | .cmpXImm _ | .cmpXDp _ | .cmpXAbs _ | .cmpYImm _ | .cmpYDp _ | .cmpYAbs _ | .cmpw _
  | .aslDp _ | .aslDpX _ | .aslAbs _ | .lsrDp _ | .lsrDpX _ | .lsrAbs _ | .rolDp _ | .rolDpX _ | .rolAbs _
  | .rorDp _ | .rorDpX _ | .rorAbs _ | .set1 _ _ | .clr1 _ _ | .bbs _ _ _ | .bbc _ _ _ | .tset1 _ | .tclr1 _
  | .or1 _ _ | .or1Not _ _ | .and1 _ _ | .and1Not _ _ | .eor1 _ _ | .mov1CMem _ _ | .mov1MemC _ _ | .not1 _ _
  | .bpl _ | .bmi _ | .bvc _ | .bvs _ | .bcc _ | .bcs _ | .bne _ | .beq _ | .bra _ | .call _ | .ret | .jmpAbs _
  | .jmpIdxInd _ | .dbnzY _ | .dbnzDp _ _ | .cbneDp _ _ | .cbneDpX _ _ | .tcall _ | .pcall _ | .reti | .clrp
  | .setp | .clrc | .setc | .notc | .clrv | .ei | .di | .nop | .sleep | .stop | .brk | .incX | .incY | .incDp _
  | .incDpX _ | .incAbs _ | .decX | .decY | .decDp _ | .decDpX _ | .decAbs _ | .incw _ | .decw _ => false

/-- The writers of `X` (R16). -/
def Instr.writesX : Instr → Bool
  | .movAIndXInc | .movXImm _ | .movXDp _ | .movXDpY _ | .movXAbs _ | .movIndXIncA | .movXA | .movXSp | .popX
  | .incX | .decX => true
  | .movAImm _ | .movAIndX | .movADp _ | .movADpX _ | .movAAbs _ | .movAAbsX _ | .movAAbsY _ | .movAIdxInd _
  | .movAIndIdx _ | .movYImm _ | .movYDp _ | .movYDpX _ | .movYAbs _ | .movIndXA | .movDpA _ | .movDpXA _
  | .movAbsA _ | .movAbsXA _ | .movAbsYA _ | .movIdxIndA _ | .movIndIdxA _ | .movDpX _ | .movDpYX _
  | .movAbsX _ | .movDpY _ | .movDpXY _ | .movAbsY _ | .movAX | .movAY | .movYA | .movSpX | .movDpDp _ _
  | .movDpImm _ _ | .movwYADp _ | .movwDpYA _ | .xcn | .pushA | .pushX | .pushY | .pushPsw | .popA | .popY
  | .popPsw | .orAImm _ | .orAIndX | .orADp _ | .orADpX _ | .orAAbs _ | .orAAbsX _ | .orAAbsY _ | .orAIdxInd _
  | .orAIndIdx _ | .orIndXIndY | .orDpDp _ _ | .orDpImm _ _ | .andAImm _ | .andAIndX | .andADp _ | .andADpX _
  | .andAAbs _ | .andAAbsX _ | .andAAbsY _ | .andAIdxInd _ | .andAIndIdx _ | .andIndXIndY | .andDpDp _ _
  | .andDpImm _ _ | .eorAImm _ | .eorAIndX | .eorADp _ | .eorADpX _ | .eorAAbs _ | .eorAAbsX _ | .eorAAbsY _
  | .eorAIdxInd _ | .eorAIndIdx _ | .eorIndXIndY | .eorDpDp _ _ | .eorDpImm _ _ | .cmpAImm _ | .cmpAIndX
  | .cmpADp _ | .cmpADpX _ | .cmpAAbs _ | .cmpAAbsX _ | .cmpAAbsY _ | .cmpAIdxInd _ | .cmpAIndIdx _
  | .cmpIndXIndY | .cmpDpDp _ _ | .cmpDpImm _ _ | .adcAImm _ | .adcAIndX | .adcADp _ | .adcADpX _ | .adcAAbs _
  | .adcAAbsX _ | .adcAAbsY _ | .adcAIdxInd _ | .adcAIndIdx _ | .adcIndXIndY | .adcDpDp _ _ | .adcDpImm _ _
  | .sbcAImm _ | .sbcAIndX | .sbcADp _ | .sbcADpX _ | .sbcAAbs _ | .sbcAAbsX _ | .sbcAAbsY _ | .sbcAIdxInd _
  | .sbcAIndIdx _ | .sbcIndXIndY | .sbcDpDp _ _ | .sbcDpImm _ _ | .cmpXImm _ | .cmpXDp _ | .cmpXAbs _
  | .cmpYImm _ | .cmpYDp _ | .cmpYAbs _ | .addw _ | .subw _ | .mul | .div | .cmpw _ | .aslA | .aslDp _
  | .aslDpX _ | .aslAbs _ | .lsrA | .lsrDp _ | .lsrDpX _ | .lsrAbs _ | .rolA | .rolDp _ | .rolDpX _ | .rolAbs _
  | .rorA | .rorDp _ | .rorDpX _ | .rorAbs _ | .set1 _ _ | .clr1 _ _ | .bbs _ _ _ | .bbc _ _ _ | .tset1 _
  | .tclr1 _ | .or1 _ _ | .or1Not _ _ | .and1 _ _ | .and1Not _ _ | .eor1 _ _ | .mov1CMem _ _ | .mov1MemC _ _
  | .not1 _ _ | .bpl _ | .bmi _ | .bvc _ | .bvs _ | .bcc _ | .bcs _ | .bne _ | .beq _ | .bra _ | .call _ | .ret
  | .jmpAbs _ | .jmpIdxInd _ | .dbnzY _ | .dbnzDp _ _ | .cbneDp _ _ | .cbneDpX _ _ | .tcall _ | .pcall _
  | .reti | .clrp | .setp | .clrc | .setc | .notc | .clrv | .ei | .di | .nop | .sleep | .stop | .brk | .daa
  | .das | .incA | .incY | .incDp _ | .incDpX _ | .incAbs _ | .decA | .decY | .decDp _ | .decDpX _ | .decAbs _
  | .incw _ | .decw _ => false

/-- The writers of `Y` (R16). -/
def Instr.writesY : Instr → Bool
  | .movYImm _ | .movYDp _ | .movYDpX _ | .movYAbs _ | .movYA | .movwYADp _ | .popY | .addw _ | .subw _ | .mul
  | .div | .dbnzY _ | .incY | .decY => true
  | .movAImm _ | .movAIndX | .movAIndXInc | .movADp _ | .movADpX _ | .movAAbs _ | .movAAbsX _ | .movAAbsY _
  | .movAIdxInd _ | .movAIndIdx _ | .movXImm _ | .movXDp _ | .movXDpY _ | .movXAbs _ | .movIndXA | .movIndXIncA
  | .movDpA _ | .movDpXA _ | .movAbsA _ | .movAbsXA _ | .movAbsYA _ | .movIdxIndA _ | .movIndIdxA _ | .movDpX _
  | .movDpYX _ | .movAbsX _ | .movDpY _ | .movDpXY _ | .movAbsY _ | .movAX | .movAY | .movXA | .movXSp
  | .movSpX | .movDpDp _ _ | .movDpImm _ _ | .movwDpYA _ | .xcn | .pushA | .pushX | .pushY | .pushPsw | .popA
  | .popX | .popPsw | .orAImm _ | .orAIndX | .orADp _ | .orADpX _ | .orAAbs _ | .orAAbsX _ | .orAAbsY _
  | .orAIdxInd _ | .orAIndIdx _ | .orIndXIndY | .orDpDp _ _ | .orDpImm _ _ | .andAImm _ | .andAIndX | .andADp _
  | .andADpX _ | .andAAbs _ | .andAAbsX _ | .andAAbsY _ | .andAIdxInd _ | .andAIndIdx _ | .andIndXIndY
  | .andDpDp _ _ | .andDpImm _ _ | .eorAImm _ | .eorAIndX | .eorADp _ | .eorADpX _ | .eorAAbs _ | .eorAAbsX _
  | .eorAAbsY _ | .eorAIdxInd _ | .eorAIndIdx _ | .eorIndXIndY | .eorDpDp _ _ | .eorDpImm _ _ | .cmpAImm _
  | .cmpAIndX | .cmpADp _ | .cmpADpX _ | .cmpAAbs _ | .cmpAAbsX _ | .cmpAAbsY _ | .cmpAIdxInd _ | .cmpAIndIdx _
  | .cmpIndXIndY | .cmpDpDp _ _ | .cmpDpImm _ _ | .adcAImm _ | .adcAIndX | .adcADp _ | .adcADpX _ | .adcAAbs _
  | .adcAAbsX _ | .adcAAbsY _ | .adcAIdxInd _ | .adcAIndIdx _ | .adcIndXIndY | .adcDpDp _ _ | .adcDpImm _ _
  | .sbcAImm _ | .sbcAIndX | .sbcADp _ | .sbcADpX _ | .sbcAAbs _ | .sbcAAbsX _ | .sbcAAbsY _ | .sbcAIdxInd _
  | .sbcAIndIdx _ | .sbcIndXIndY | .sbcDpDp _ _ | .sbcDpImm _ _ | .cmpXImm _ | .cmpXDp _ | .cmpXAbs _
  | .cmpYImm _ | .cmpYDp _ | .cmpYAbs _ | .cmpw _ | .aslA | .aslDp _ | .aslDpX _ | .aslAbs _ | .lsrA | .lsrDp _
  | .lsrDpX _ | .lsrAbs _ | .rolA | .rolDp _ | .rolDpX _ | .rolAbs _ | .rorA | .rorDp _ | .rorDpX _ | .rorAbs _
  | .set1 _ _ | .clr1 _ _ | .bbs _ _ _ | .bbc _ _ _ | .tset1 _ | .tclr1 _ | .or1 _ _ | .or1Not _ _ | .and1 _ _
  | .and1Not _ _ | .eor1 _ _ | .mov1CMem _ _ | .mov1MemC _ _ | .not1 _ _ | .bpl _ | .bmi _ | .bvc _ | .bvs _
  | .bcc _ | .bcs _ | .bne _ | .beq _ | .bra _ | .call _ | .ret | .jmpAbs _ | .jmpIdxInd _ | .dbnzDp _ _
  | .cbneDp _ _ | .cbneDpX _ _ | .tcall _ | .pcall _ | .reti | .clrp | .setp | .clrc | .setc | .notc | .clrv
  | .ei | .di | .nop | .sleep | .stop | .brk | .daa | .das | .incA | .incX | .incDp _ | .incDpX _ | .incAbs _
  | .decA | .decX | .decDp _ | .decDpX _ | .decAbs _ | .incw _ | .decw _ => false

/-- The writers of `SP` (R16). -/
def Instr.writesSp : Instr → Bool
  | .movSpX | .pushA | .pushX | .pushY | .pushPsw | .popA | .popX | .popY | .popPsw | .call _ | .ret | .tcall _
  | .pcall _ | .reti | .brk => true
  | .movAImm _ | .movAIndX | .movAIndXInc | .movADp _ | .movADpX _ | .movAAbs _ | .movAAbsX _ | .movAAbsY _
  | .movAIdxInd _ | .movAIndIdx _ | .movXImm _ | .movXDp _ | .movXDpY _ | .movXAbs _ | .movYImm _ | .movYDp _
  | .movYDpX _ | .movYAbs _ | .movIndXA | .movIndXIncA | .movDpA _ | .movDpXA _ | .movAbsA _ | .movAbsXA _
  | .movAbsYA _ | .movIdxIndA _ | .movIndIdxA _ | .movDpX _ | .movDpYX _ | .movAbsX _ | .movDpY _ | .movDpXY _
  | .movAbsY _ | .movAX | .movAY | .movXA | .movYA | .movXSp | .movDpDp _ _ | .movDpImm _ _ | .movwYADp _
  | .movwDpYA _ | .xcn | .orAImm _ | .orAIndX | .orADp _ | .orADpX _ | .orAAbs _ | .orAAbsX _ | .orAAbsY _
  | .orAIdxInd _ | .orAIndIdx _ | .orIndXIndY | .orDpDp _ _ | .orDpImm _ _ | .andAImm _ | .andAIndX | .andADp _
  | .andADpX _ | .andAAbs _ | .andAAbsX _ | .andAAbsY _ | .andAIdxInd _ | .andAIndIdx _ | .andIndXIndY
  | .andDpDp _ _ | .andDpImm _ _ | .eorAImm _ | .eorAIndX | .eorADp _ | .eorADpX _ | .eorAAbs _ | .eorAAbsX _
  | .eorAAbsY _ | .eorAIdxInd _ | .eorAIndIdx _ | .eorIndXIndY | .eorDpDp _ _ | .eorDpImm _ _ | .cmpAImm _
  | .cmpAIndX | .cmpADp _ | .cmpADpX _ | .cmpAAbs _ | .cmpAAbsX _ | .cmpAAbsY _ | .cmpAIdxInd _ | .cmpAIndIdx _
  | .cmpIndXIndY | .cmpDpDp _ _ | .cmpDpImm _ _ | .adcAImm _ | .adcAIndX | .adcADp _ | .adcADpX _ | .adcAAbs _
  | .adcAAbsX _ | .adcAAbsY _ | .adcAIdxInd _ | .adcAIndIdx _ | .adcIndXIndY | .adcDpDp _ _ | .adcDpImm _ _
  | .sbcAImm _ | .sbcAIndX | .sbcADp _ | .sbcADpX _ | .sbcAAbs _ | .sbcAAbsX _ | .sbcAAbsY _ | .sbcAIdxInd _
  | .sbcAIndIdx _ | .sbcIndXIndY | .sbcDpDp _ _ | .sbcDpImm _ _ | .cmpXImm _ | .cmpXDp _ | .cmpXAbs _
  | .cmpYImm _ | .cmpYDp _ | .cmpYAbs _ | .addw _ | .subw _ | .mul | .div | .cmpw _ | .aslA | .aslDp _
  | .aslDpX _ | .aslAbs _ | .lsrA | .lsrDp _ | .lsrDpX _ | .lsrAbs _ | .rolA | .rolDp _ | .rolDpX _ | .rolAbs _
  | .rorA | .rorDp _ | .rorDpX _ | .rorAbs _ | .set1 _ _ | .clr1 _ _ | .bbs _ _ _ | .bbc _ _ _ | .tset1 _
  | .tclr1 _ | .or1 _ _ | .or1Not _ _ | .and1 _ _ | .and1Not _ _ | .eor1 _ _ | .mov1CMem _ _ | .mov1MemC _ _
  | .not1 _ _ | .bpl _ | .bmi _ | .bvc _ | .bvs _ | .bcc _ | .bcs _ | .bne _ | .beq _ | .bra _ | .jmpAbs _
  | .jmpIdxInd _ | .dbnzY _ | .dbnzDp _ _ | .cbneDp _ _ | .cbneDpX _ _ | .clrp | .setp | .clrc | .setc | .notc
  | .clrv | .ei | .di | .nop | .sleep | .stop | .daa | .das | .incA | .incX | .incY | .incDp _ | .incDpX _
  | .incAbs _ | .decA | .decX | .decY | .decDp _ | .decDpX _ | .decAbs _ | .incw _ | .decw _ => false

/-- The writers of a byte register (R16). -/
def Instr.writes (i : Instr) : Reg → Bool
  | .a => i.writesA
  | .x => i.writesX
  | .y => i.writesY
  | .sp => i.writesSp

/-! ### Flags and their writers -/

/-- The writers of N and Z (R19). -/
def Instr.writesNZ : Instr → Bool
  | .movAImm _ | .movAIndX | .movAIndXInc | .movADp _ | .movADpX _ | .movAAbs _ | .movAAbsX _ | .movAAbsY _
  | .movAIdxInd _ | .movAIndIdx _ | .movXImm _ | .movXDp _ | .movXDpY _ | .movXAbs _ | .movYImm _ | .movYDp _
  | .movYDpX _ | .movYAbs _ | .movAX | .movAY | .movXA | .movYA | .movXSp | .movwYADp _ | .xcn | .popPsw
  | .orAImm _ | .orAIndX | .orADp _ | .orADpX _ | .orAAbs _ | .orAAbsX _ | .orAAbsY _ | .orAIdxInd _
  | .orAIndIdx _ | .orIndXIndY | .orDpDp _ _ | .orDpImm _ _ | .andAImm _ | .andAIndX | .andADp _ | .andADpX _
  | .andAAbs _ | .andAAbsX _ | .andAAbsY _ | .andAIdxInd _ | .andAIndIdx _ | .andIndXIndY | .andDpDp _ _
  | .andDpImm _ _ | .eorAImm _ | .eorAIndX | .eorADp _ | .eorADpX _ | .eorAAbs _ | .eorAAbsX _ | .eorAAbsY _
  | .eorAIdxInd _ | .eorAIndIdx _ | .eorIndXIndY | .eorDpDp _ _ | .eorDpImm _ _ | .cmpAImm _ | .cmpAIndX
  | .cmpADp _ | .cmpADpX _ | .cmpAAbs _ | .cmpAAbsX _ | .cmpAAbsY _ | .cmpAIdxInd _ | .cmpAIndIdx _
  | .cmpIndXIndY | .cmpDpDp _ _ | .cmpDpImm _ _ | .adcAImm _ | .adcAIndX | .adcADp _ | .adcADpX _ | .adcAAbs _
  | .adcAAbsX _ | .adcAAbsY _ | .adcAIdxInd _ | .adcAIndIdx _ | .adcIndXIndY | .adcDpDp _ _ | .adcDpImm _ _
  | .sbcAImm _ | .sbcAIndX | .sbcADp _ | .sbcADpX _ | .sbcAAbs _ | .sbcAAbsX _ | .sbcAAbsY _ | .sbcAIdxInd _
  | .sbcAIndIdx _ | .sbcIndXIndY | .sbcDpDp _ _ | .sbcDpImm _ _ | .cmpXImm _ | .cmpXDp _ | .cmpXAbs _
  | .cmpYImm _ | .cmpYDp _ | .cmpYAbs _ | .addw _ | .subw _ | .mul | .div | .cmpw _ | .aslA | .aslDp _
  | .aslDpX _ | .aslAbs _ | .lsrA | .lsrDp _ | .lsrDpX _ | .lsrAbs _ | .rolA | .rolDp _ | .rolDpX _ | .rolAbs _
  | .rorA | .rorDp _ | .rorDpX _ | .rorAbs _ | .tset1 _ | .tclr1 _ | .reti | .daa | .das | .incA | .incX
  | .incY | .incDp _ | .incDpX _ | .incAbs _ | .decA | .decX | .decY | .decDp _ | .decDpX _ | .decAbs _
  | .incw _ | .decw _ => true
  | .movIndXA | .movIndXIncA | .movDpA _ | .movDpXA _ | .movAbsA _ | .movAbsXA _ | .movAbsYA _ | .movIdxIndA _
  | .movIndIdxA _ | .movDpX _ | .movDpYX _ | .movAbsX _ | .movDpY _ | .movDpXY _ | .movAbsY _ | .movSpX
  | .movDpDp _ _ | .movDpImm _ _ | .movwDpYA _ | .pushA | .pushX | .pushY | .pushPsw | .popA | .popX | .popY
  | .set1 _ _ | .clr1 _ _ | .bbs _ _ _ | .bbc _ _ _ | .or1 _ _ | .or1Not _ _ | .and1 _ _ | .and1Not _ _
  | .eor1 _ _ | .mov1CMem _ _ | .mov1MemC _ _ | .not1 _ _ | .bpl _ | .bmi _ | .bvc _ | .bvs _ | .bcc _ | .bcs _
  | .bne _ | .beq _ | .bra _ | .call _ | .ret | .jmpAbs _ | .jmpIdxInd _ | .dbnzY _ | .dbnzDp _ _ | .cbneDp _ _
  | .cbneDpX _ _ | .tcall _ | .pcall _ | .clrp | .setp | .clrc | .setc | .notc | .clrv | .ei | .di | .nop
  | .sleep | .stop | .brk => false

/-- The writers of V and H: R19 lists the same instructions for both. -/
def Instr.writesVH : Instr → Bool
  | .popPsw | .adcAImm _ | .adcAIndX | .adcADp _ | .adcADpX _ | .adcAAbs _ | .adcAAbsX _ | .adcAAbsY _
  | .adcAIdxInd _ | .adcAIndIdx _ | .adcIndXIndY | .adcDpDp _ _ | .adcDpImm _ _ | .sbcAImm _ | .sbcAIndX
  | .sbcADp _ | .sbcADpX _ | .sbcAAbs _ | .sbcAAbsX _ | .sbcAAbsY _ | .sbcAIdxInd _ | .sbcAIndIdx _
  | .sbcIndXIndY | .sbcDpDp _ _ | .sbcDpImm _ _ | .addw _ | .subw _ | .div | .reti | .clrv => true
  | .movAImm _ | .movAIndX | .movAIndXInc | .movADp _ | .movADpX _ | .movAAbs _ | .movAAbsX _ | .movAAbsY _
  | .movAIdxInd _ | .movAIndIdx _ | .movXImm _ | .movXDp _ | .movXDpY _ | .movXAbs _ | .movYImm _ | .movYDp _
  | .movYDpX _ | .movYAbs _ | .movIndXA | .movIndXIncA | .movDpA _ | .movDpXA _ | .movAbsA _ | .movAbsXA _
  | .movAbsYA _ | .movIdxIndA _ | .movIndIdxA _ | .movDpX _ | .movDpYX _ | .movAbsX _ | .movDpY _ | .movDpXY _
  | .movAbsY _ | .movAX | .movAY | .movXA | .movYA | .movXSp | .movSpX | .movDpDp _ _ | .movDpImm _ _
  | .movwYADp _ | .movwDpYA _ | .xcn | .pushA | .pushX | .pushY | .pushPsw | .popA | .popX | .popY | .orAImm _
  | .orAIndX | .orADp _ | .orADpX _ | .orAAbs _ | .orAAbsX _ | .orAAbsY _ | .orAIdxInd _ | .orAIndIdx _
  | .orIndXIndY | .orDpDp _ _ | .orDpImm _ _ | .andAImm _ | .andAIndX | .andADp _ | .andADpX _ | .andAAbs _
  | .andAAbsX _ | .andAAbsY _ | .andAIdxInd _ | .andAIndIdx _ | .andIndXIndY | .andDpDp _ _ | .andDpImm _ _
  | .eorAImm _ | .eorAIndX | .eorADp _ | .eorADpX _ | .eorAAbs _ | .eorAAbsX _ | .eorAAbsY _ | .eorAIdxInd _
  | .eorAIndIdx _ | .eorIndXIndY | .eorDpDp _ _ | .eorDpImm _ _ | .cmpAImm _ | .cmpAIndX | .cmpADp _
  | .cmpADpX _ | .cmpAAbs _ | .cmpAAbsX _ | .cmpAAbsY _ | .cmpAIdxInd _ | .cmpAIndIdx _ | .cmpIndXIndY
  | .cmpDpDp _ _ | .cmpDpImm _ _ | .cmpXImm _ | .cmpXDp _ | .cmpXAbs _ | .cmpYImm _ | .cmpYDp _ | .cmpYAbs _
  | .mul | .cmpw _ | .aslA | .aslDp _ | .aslDpX _ | .aslAbs _ | .lsrA | .lsrDp _ | .lsrDpX _ | .lsrAbs _
  | .rolA | .rolDp _ | .rolDpX _ | .rolAbs _ | .rorA | .rorDp _ | .rorDpX _ | .rorAbs _ | .set1 _ _ | .clr1 _ _
  | .bbs _ _ _ | .bbc _ _ _ | .tset1 _ | .tclr1 _ | .or1 _ _ | .or1Not _ _ | .and1 _ _ | .and1Not _ _
  | .eor1 _ _ | .mov1CMem _ _ | .mov1MemC _ _ | .not1 _ _ | .bpl _ | .bmi _ | .bvc _ | .bvs _ | .bcc _ | .bcs _
  | .bne _ | .beq _ | .bra _ | .call _ | .ret | .jmpAbs _ | .jmpIdxInd _ | .dbnzY _ | .dbnzDp _ _ | .cbneDp _ _
  | .cbneDpX _ _ | .tcall _ | .pcall _ | .clrp | .setp | .clrc | .setc | .notc | .ei | .di | .nop | .sleep
  | .stop | .brk | .daa | .das | .incA | .incX | .incY | .incDp _ | .incDpX _ | .incAbs _ | .decA | .decX
  | .decY | .decDp _ | .decDpX _ | .decAbs _ | .incw _ | .decw _ => false

/-- The writers of C (R19). -/
def Instr.writesC : Instr → Bool
  | .popPsw | .cmpAImm _ | .cmpAIndX | .cmpADp _ | .cmpADpX _ | .cmpAAbs _ | .cmpAAbsX _ | .cmpAAbsY _
  | .cmpAIdxInd _ | .cmpAIndIdx _ | .cmpIndXIndY | .cmpDpDp _ _ | .cmpDpImm _ _ | .adcAImm _ | .adcAIndX
  | .adcADp _ | .adcADpX _ | .adcAAbs _ | .adcAAbsX _ | .adcAAbsY _ | .adcAIdxInd _ | .adcAIndIdx _
  | .adcIndXIndY | .adcDpDp _ _ | .adcDpImm _ _ | .sbcAImm _ | .sbcAIndX | .sbcADp _ | .sbcADpX _ | .sbcAAbs _
  | .sbcAAbsX _ | .sbcAAbsY _ | .sbcAIdxInd _ | .sbcAIndIdx _ | .sbcIndXIndY | .sbcDpDp _ _ | .sbcDpImm _ _
  | .cmpXImm _ | .cmpXDp _ | .cmpXAbs _ | .cmpYImm _ | .cmpYDp _ | .cmpYAbs _ | .addw _ | .subw _ | .cmpw _
  | .aslA | .aslDp _ | .aslDpX _ | .aslAbs _ | .lsrA | .lsrDp _ | .lsrDpX _ | .lsrAbs _ | .rolA | .rolDp _
  | .rolDpX _ | .rolAbs _ | .rorA | .rorDp _ | .rorDpX _ | .rorAbs _ | .or1 _ _ | .or1Not _ _ | .and1 _ _
  | .and1Not _ _ | .eor1 _ _ | .mov1CMem _ _ | .reti | .clrc | .setc | .notc | .daa | .das => true
  | .movAImm _ | .movAIndX | .movAIndXInc | .movADp _ | .movADpX _ | .movAAbs _ | .movAAbsX _ | .movAAbsY _
  | .movAIdxInd _ | .movAIndIdx _ | .movXImm _ | .movXDp _ | .movXDpY _ | .movXAbs _ | .movYImm _ | .movYDp _
  | .movYDpX _ | .movYAbs _ | .movIndXA | .movIndXIncA | .movDpA _ | .movDpXA _ | .movAbsA _ | .movAbsXA _
  | .movAbsYA _ | .movIdxIndA _ | .movIndIdxA _ | .movDpX _ | .movDpYX _ | .movAbsX _ | .movDpY _ | .movDpXY _
  | .movAbsY _ | .movAX | .movAY | .movXA | .movYA | .movXSp | .movSpX | .movDpDp _ _ | .movDpImm _ _
  | .movwYADp _ | .movwDpYA _ | .xcn | .pushA | .pushX | .pushY | .pushPsw | .popA | .popX | .popY | .orAImm _
  | .orAIndX | .orADp _ | .orADpX _ | .orAAbs _ | .orAAbsX _ | .orAAbsY _ | .orAIdxInd _ | .orAIndIdx _
  | .orIndXIndY | .orDpDp _ _ | .orDpImm _ _ | .andAImm _ | .andAIndX | .andADp _ | .andADpX _ | .andAAbs _
  | .andAAbsX _ | .andAAbsY _ | .andAIdxInd _ | .andAIndIdx _ | .andIndXIndY | .andDpDp _ _ | .andDpImm _ _
  | .eorAImm _ | .eorAIndX | .eorADp _ | .eorADpX _ | .eorAAbs _ | .eorAAbsX _ | .eorAAbsY _ | .eorAIdxInd _
  | .eorAIndIdx _ | .eorIndXIndY | .eorDpDp _ _ | .eorDpImm _ _ | .mul | .div | .set1 _ _ | .clr1 _ _
  | .bbs _ _ _ | .bbc _ _ _ | .tset1 _ | .tclr1 _ | .mov1MemC _ _ | .not1 _ _ | .bpl _ | .bmi _ | .bvc _
  | .bvs _ | .bcc _ | .bcs _ | .bne _ | .beq _ | .bra _ | .call _ | .ret | .jmpAbs _ | .jmpIdxInd _ | .dbnzY _
  | .dbnzDp _ _ | .cbneDp _ _ | .cbneDpX _ _ | .tcall _ | .pcall _ | .clrp | .setp | .clrv | .ei | .di | .nop
  | .sleep | .stop | .brk | .incA | .incX | .incY | .incDp _ | .incDpX _ | .incAbs _ | .decA | .decX | .decY
  | .decDp _ | .decDpX _ | .decAbs _ | .incw _ | .decw _ => false

/-- The writers of P (R19). -/
def Instr.writesP : Instr → Bool
  | .popPsw | .reti | .clrp | .setp => true
  | .movAImm _ | .movAIndX | .movAIndXInc | .movADp _ | .movADpX _ | .movAAbs _ | .movAAbsX _ | .movAAbsY _
  | .movAIdxInd _ | .movAIndIdx _ | .movXImm _ | .movXDp _ | .movXDpY _ | .movXAbs _ | .movYImm _ | .movYDp _
  | .movYDpX _ | .movYAbs _ | .movIndXA | .movIndXIncA | .movDpA _ | .movDpXA _ | .movAbsA _ | .movAbsXA _
  | .movAbsYA _ | .movIdxIndA _ | .movIndIdxA _ | .movDpX _ | .movDpYX _ | .movAbsX _ | .movDpY _ | .movDpXY _
  | .movAbsY _ | .movAX | .movAY | .movXA | .movYA | .movXSp | .movSpX | .movDpDp _ _ | .movDpImm _ _
  | .movwYADp _ | .movwDpYA _ | .xcn | .pushA | .pushX | .pushY | .pushPsw | .popA | .popX | .popY | .orAImm _
  | .orAIndX | .orADp _ | .orADpX _ | .orAAbs _ | .orAAbsX _ | .orAAbsY _ | .orAIdxInd _ | .orAIndIdx _
  | .orIndXIndY | .orDpDp _ _ | .orDpImm _ _ | .andAImm _ | .andAIndX | .andADp _ | .andADpX _ | .andAAbs _
  | .andAAbsX _ | .andAAbsY _ | .andAIdxInd _ | .andAIndIdx _ | .andIndXIndY | .andDpDp _ _ | .andDpImm _ _
  | .eorAImm _ | .eorAIndX | .eorADp _ | .eorADpX _ | .eorAAbs _ | .eorAAbsX _ | .eorAAbsY _ | .eorAIdxInd _
  | .eorAIndIdx _ | .eorIndXIndY | .eorDpDp _ _ | .eorDpImm _ _ | .cmpAImm _ | .cmpAIndX | .cmpADp _
  | .cmpADpX _ | .cmpAAbs _ | .cmpAAbsX _ | .cmpAAbsY _ | .cmpAIdxInd _ | .cmpAIndIdx _ | .cmpIndXIndY
  | .cmpDpDp _ _ | .cmpDpImm _ _ | .adcAImm _ | .adcAIndX | .adcADp _ | .adcADpX _ | .adcAAbs _ | .adcAAbsX _
  | .adcAAbsY _ | .adcAIdxInd _ | .adcAIndIdx _ | .adcIndXIndY | .adcDpDp _ _ | .adcDpImm _ _ | .sbcAImm _
  | .sbcAIndX | .sbcADp _ | .sbcADpX _ | .sbcAAbs _ | .sbcAAbsX _ | .sbcAAbsY _ | .sbcAIdxInd _ | .sbcAIndIdx _
  | .sbcIndXIndY | .sbcDpDp _ _ | .sbcDpImm _ _ | .cmpXImm _ | .cmpXDp _ | .cmpXAbs _ | .cmpYImm _ | .cmpYDp _
  | .cmpYAbs _ | .addw _ | .subw _ | .mul | .div | .cmpw _ | .aslA | .aslDp _ | .aslDpX _ | .aslAbs _ | .lsrA
  | .lsrDp _ | .lsrDpX _ | .lsrAbs _ | .rolA | .rolDp _ | .rolDpX _ | .rolAbs _ | .rorA | .rorDp _ | .rorDpX _
  | .rorAbs _ | .set1 _ _ | .clr1 _ _ | .bbs _ _ _ | .bbc _ _ _ | .tset1 _ | .tclr1 _ | .or1 _ _ | .or1Not _ _
  | .and1 _ _ | .and1Not _ _ | .eor1 _ _ | .mov1CMem _ _ | .mov1MemC _ _ | .not1 _ _ | .bpl _ | .bmi _ | .bvc _
  | .bvs _ | .bcc _ | .bcs _ | .bne _ | .beq _ | .bra _ | .call _ | .ret | .jmpAbs _ | .jmpIdxInd _ | .dbnzY _
  | .dbnzDp _ _ | .cbneDp _ _ | .cbneDpX _ _ | .tcall _ | .pcall _ | .clrc | .setc | .notc | .clrv | .ei | .di
  | .nop | .sleep | .stop | .brk | .daa | .das | .incA | .incX | .incY | .incDp _ | .incDpX _ | .incAbs _
  | .decA | .decX | .decY | .decDp _ | .decDpX _ | .decAbs _ | .incw _ | .decw _ => false

/-- The writers of B (R19). -/
def Instr.writesB : Instr → Bool
  | .popPsw | .reti | .brk => true
  | .movAImm _ | .movAIndX | .movAIndXInc | .movADp _ | .movADpX _ | .movAAbs _ | .movAAbsX _ | .movAAbsY _
  | .movAIdxInd _ | .movAIndIdx _ | .movXImm _ | .movXDp _ | .movXDpY _ | .movXAbs _ | .movYImm _ | .movYDp _
  | .movYDpX _ | .movYAbs _ | .movIndXA | .movIndXIncA | .movDpA _ | .movDpXA _ | .movAbsA _ | .movAbsXA _
  | .movAbsYA _ | .movIdxIndA _ | .movIndIdxA _ | .movDpX _ | .movDpYX _ | .movAbsX _ | .movDpY _ | .movDpXY _
  | .movAbsY _ | .movAX | .movAY | .movXA | .movYA | .movXSp | .movSpX | .movDpDp _ _ | .movDpImm _ _
  | .movwYADp _ | .movwDpYA _ | .xcn | .pushA | .pushX | .pushY | .pushPsw | .popA | .popX | .popY | .orAImm _
  | .orAIndX | .orADp _ | .orADpX _ | .orAAbs _ | .orAAbsX _ | .orAAbsY _ | .orAIdxInd _ | .orAIndIdx _
  | .orIndXIndY | .orDpDp _ _ | .orDpImm _ _ | .andAImm _ | .andAIndX | .andADp _ | .andADpX _ | .andAAbs _
  | .andAAbsX _ | .andAAbsY _ | .andAIdxInd _ | .andAIndIdx _ | .andIndXIndY | .andDpDp _ _ | .andDpImm _ _
  | .eorAImm _ | .eorAIndX | .eorADp _ | .eorADpX _ | .eorAAbs _ | .eorAAbsX _ | .eorAAbsY _ | .eorAIdxInd _
  | .eorAIndIdx _ | .eorIndXIndY | .eorDpDp _ _ | .eorDpImm _ _ | .cmpAImm _ | .cmpAIndX | .cmpADp _
  | .cmpADpX _ | .cmpAAbs _ | .cmpAAbsX _ | .cmpAAbsY _ | .cmpAIdxInd _ | .cmpAIndIdx _ | .cmpIndXIndY
  | .cmpDpDp _ _ | .cmpDpImm _ _ | .adcAImm _ | .adcAIndX | .adcADp _ | .adcADpX _ | .adcAAbs _ | .adcAAbsX _
  | .adcAAbsY _ | .adcAIdxInd _ | .adcAIndIdx _ | .adcIndXIndY | .adcDpDp _ _ | .adcDpImm _ _ | .sbcAImm _
  | .sbcAIndX | .sbcADp _ | .sbcADpX _ | .sbcAAbs _ | .sbcAAbsX _ | .sbcAAbsY _ | .sbcAIdxInd _ | .sbcAIndIdx _
  | .sbcIndXIndY | .sbcDpDp _ _ | .sbcDpImm _ _ | .cmpXImm _ | .cmpXDp _ | .cmpXAbs _ | .cmpYImm _ | .cmpYDp _
  | .cmpYAbs _ | .addw _ | .subw _ | .mul | .div | .cmpw _ | .aslA | .aslDp _ | .aslDpX _ | .aslAbs _ | .lsrA
  | .lsrDp _ | .lsrDpX _ | .lsrAbs _ | .rolA | .rolDp _ | .rolDpX _ | .rolAbs _ | .rorA | .rorDp _ | .rorDpX _
  | .rorAbs _ | .set1 _ _ | .clr1 _ _ | .bbs _ _ _ | .bbc _ _ _ | .tset1 _ | .tclr1 _ | .or1 _ _ | .or1Not _ _
  | .and1 _ _ | .and1Not _ _ | .eor1 _ _ | .mov1CMem _ _ | .mov1MemC _ _ | .not1 _ _ | .bpl _ | .bmi _ | .bvc _
  | .bvs _ | .bcc _ | .bcs _ | .bne _ | .beq _ | .bra _ | .call _ | .ret | .jmpAbs _ | .jmpIdxInd _ | .dbnzY _
  | .dbnzDp _ _ | .cbneDp _ _ | .cbneDpX _ _ | .tcall _ | .pcall _ | .clrp | .setp | .clrc | .setc | .notc
  | .clrv | .ei | .di | .nop | .sleep | .stop | .daa | .das | .incA | .incX | .incY | .incDp _ | .incDpX _
  | .incAbs _ | .decA | .decX | .decY | .decDp _ | .decDpX _ | .decAbs _ | .incw _ | .decw _ => false

/-- The writers of I (R19). -/
def Instr.writesI : Instr → Bool
  | .popPsw | .reti | .ei | .di | .brk => true
  | .movAImm _ | .movAIndX | .movAIndXInc | .movADp _ | .movADpX _ | .movAAbs _ | .movAAbsX _ | .movAAbsY _
  | .movAIdxInd _ | .movAIndIdx _ | .movXImm _ | .movXDp _ | .movXDpY _ | .movXAbs _ | .movYImm _ | .movYDp _
  | .movYDpX _ | .movYAbs _ | .movIndXA | .movIndXIncA | .movDpA _ | .movDpXA _ | .movAbsA _ | .movAbsXA _
  | .movAbsYA _ | .movIdxIndA _ | .movIndIdxA _ | .movDpX _ | .movDpYX _ | .movAbsX _ | .movDpY _ | .movDpXY _
  | .movAbsY _ | .movAX | .movAY | .movXA | .movYA | .movXSp | .movSpX | .movDpDp _ _ | .movDpImm _ _
  | .movwYADp _ | .movwDpYA _ | .xcn | .pushA | .pushX | .pushY | .pushPsw | .popA | .popX | .popY | .orAImm _
  | .orAIndX | .orADp _ | .orADpX _ | .orAAbs _ | .orAAbsX _ | .orAAbsY _ | .orAIdxInd _ | .orAIndIdx _
  | .orIndXIndY | .orDpDp _ _ | .orDpImm _ _ | .andAImm _ | .andAIndX | .andADp _ | .andADpX _ | .andAAbs _
  | .andAAbsX _ | .andAAbsY _ | .andAIdxInd _ | .andAIndIdx _ | .andIndXIndY | .andDpDp _ _ | .andDpImm _ _
  | .eorAImm _ | .eorAIndX | .eorADp _ | .eorADpX _ | .eorAAbs _ | .eorAAbsX _ | .eorAAbsY _ | .eorAIdxInd _
  | .eorAIndIdx _ | .eorIndXIndY | .eorDpDp _ _ | .eorDpImm _ _ | .cmpAImm _ | .cmpAIndX | .cmpADp _
  | .cmpADpX _ | .cmpAAbs _ | .cmpAAbsX _ | .cmpAAbsY _ | .cmpAIdxInd _ | .cmpAIndIdx _ | .cmpIndXIndY
  | .cmpDpDp _ _ | .cmpDpImm _ _ | .adcAImm _ | .adcAIndX | .adcADp _ | .adcADpX _ | .adcAAbs _ | .adcAAbsX _
  | .adcAAbsY _ | .adcAIdxInd _ | .adcAIndIdx _ | .adcIndXIndY | .adcDpDp _ _ | .adcDpImm _ _ | .sbcAImm _
  | .sbcAIndX | .sbcADp _ | .sbcADpX _ | .sbcAAbs _ | .sbcAAbsX _ | .sbcAAbsY _ | .sbcAIdxInd _ | .sbcAIndIdx _
  | .sbcIndXIndY | .sbcDpDp _ _ | .sbcDpImm _ _ | .cmpXImm _ | .cmpXDp _ | .cmpXAbs _ | .cmpYImm _ | .cmpYDp _
  | .cmpYAbs _ | .addw _ | .subw _ | .mul | .div | .cmpw _ | .aslA | .aslDp _ | .aslDpX _ | .aslAbs _ | .lsrA
  | .lsrDp _ | .lsrDpX _ | .lsrAbs _ | .rolA | .rolDp _ | .rolDpX _ | .rolAbs _ | .rorA | .rorDp _ | .rorDpX _
  | .rorAbs _ | .set1 _ _ | .clr1 _ _ | .bbs _ _ _ | .bbc _ _ _ | .tset1 _ | .tclr1 _ | .or1 _ _ | .or1Not _ _
  | .and1 _ _ | .and1Not _ _ | .eor1 _ _ | .mov1CMem _ _ | .mov1MemC _ _ | .not1 _ _ | .bpl _ | .bmi _ | .bvc _
  | .bvs _ | .bcc _ | .bcs _ | .bne _ | .beq _ | .bra _ | .call _ | .ret | .jmpAbs _ | .jmpIdxInd _ | .dbnzY _
  | .dbnzDp _ _ | .cbneDp _ _ | .cbneDpX _ _ | .tcall _ | .pcall _ | .clrp | .setp | .clrc | .setc | .notc
  | .clrv | .nop | .sleep | .stop | .daa | .das | .incA | .incX | .incY | .incDp _ | .incDpX _ | .incAbs _
  | .decA | .decX | .decY | .decDp _ | .decDpX _ | .decAbs _ | .incw _ | .decw _ => false

/-- The instructions that use a draw (00_scope.md R11). -/
def Instr.drawsValues : Instr → Bool
  | .adcAImm _ | .adcAIndX | .adcADp _ | .adcADpX _ | .adcAAbs _ | .adcAAbsX _ | .adcAAbsY _ | .adcAIdxInd _
  | .adcAIndIdx _ | .adcIndXIndY | .adcDpDp _ _ | .adcDpImm _ _ | .addw _ | .subw _ | .div | .clrv => true
  | .movAImm _ | .movAIndX | .movAIndXInc | .movADp _ | .movADpX _ | .movAAbs _ | .movAAbsX _ | .movAAbsY _
  | .movAIdxInd _ | .movAIndIdx _ | .movXImm _ | .movXDp _ | .movXDpY _ | .movXAbs _ | .movYImm _ | .movYDp _
  | .movYDpX _ | .movYAbs _ | .movIndXA | .movIndXIncA | .movDpA _ | .movDpXA _ | .movAbsA _ | .movAbsXA _
  | .movAbsYA _ | .movIdxIndA _ | .movIndIdxA _ | .movDpX _ | .movDpYX _ | .movAbsX _ | .movDpY _ | .movDpXY _
  | .movAbsY _ | .movAX | .movAY | .movXA | .movYA | .movXSp | .movSpX | .movDpDp _ _ | .movDpImm _ _
  | .movwYADp _ | .movwDpYA _ | .xcn | .pushA | .pushX | .pushY | .pushPsw | .popA | .popX | .popY | .popPsw
  | .orAImm _ | .orAIndX | .orADp _ | .orADpX _ | .orAAbs _ | .orAAbsX _ | .orAAbsY _ | .orAIdxInd _
  | .orAIndIdx _ | .orIndXIndY | .orDpDp _ _ | .orDpImm _ _ | .andAImm _ | .andAIndX | .andADp _ | .andADpX _
  | .andAAbs _ | .andAAbsX _ | .andAAbsY _ | .andAIdxInd _ | .andAIndIdx _ | .andIndXIndY | .andDpDp _ _
  | .andDpImm _ _ | .eorAImm _ | .eorAIndX | .eorADp _ | .eorADpX _ | .eorAAbs _ | .eorAAbsX _ | .eorAAbsY _
  | .eorAIdxInd _ | .eorAIndIdx _ | .eorIndXIndY | .eorDpDp _ _ | .eorDpImm _ _ | .cmpAImm _ | .cmpAIndX
  | .cmpADp _ | .cmpADpX _ | .cmpAAbs _ | .cmpAAbsX _ | .cmpAAbsY _ | .cmpAIdxInd _ | .cmpAIndIdx _
  | .cmpIndXIndY | .cmpDpDp _ _ | .cmpDpImm _ _ | .sbcAImm _ | .sbcAIndX | .sbcADp _ | .sbcADpX _ | .sbcAAbs _
  | .sbcAAbsX _ | .sbcAAbsY _ | .sbcAIdxInd _ | .sbcAIndIdx _ | .sbcIndXIndY | .sbcDpDp _ _ | .sbcDpImm _ _
  | .cmpXImm _ | .cmpXDp _ | .cmpXAbs _ | .cmpYImm _ | .cmpYDp _ | .cmpYAbs _ | .mul | .cmpw _ | .aslA
  | .aslDp _ | .aslDpX _ | .aslAbs _ | .lsrA | .lsrDp _ | .lsrDpX _ | .lsrAbs _ | .rolA | .rolDp _ | .rolDpX _
  | .rolAbs _ | .rorA | .rorDp _ | .rorDpX _ | .rorAbs _ | .set1 _ _ | .clr1 _ _ | .bbs _ _ _ | .bbc _ _ _
  | .tset1 _ | .tclr1 _ | .or1 _ _ | .or1Not _ _ | .and1 _ _ | .and1Not _ _ | .eor1 _ _ | .mov1CMem _ _
  | .mov1MemC _ _ | .not1 _ _ | .bpl _ | .bmi _ | .bvc _ | .bvs _ | .bcc _ | .bcs _ | .bne _ | .beq _ | .bra _
  | .call _ | .ret | .jmpAbs _ | .jmpIdxInd _ | .dbnzY _ | .dbnzDp _ _ | .cbneDp _ _ | .cbneDpX _ _ | .tcall _
  | .pcall _ | .reti | .clrp | .setp | .clrc | .setc | .notc | .ei | .di | .nop | .sleep | .stop | .brk | .daa
  | .das | .incA | .incX | .incY | .incDp _ | .incDpX _ | .incAbs _ | .decA | .decX | .decY | .decDp _
  | .decDpX _ | .decAbs _ | .incw _ | .decw _ => false

/-! ### Where an instruction stores and what it reads -/

end Sys2Proof

namespace Sys2Proof.Machine

/-- The two bytes of the direct-page word at `o` (20_memory.md R41). -/
def State.dpWordAddrs (s : State) (o : Byte) : List Addr := [s.dp o, s.dphi o]

/-- The stack bytes that `n` pushes store to, in their order (R42). -/
def State.pushAddrs (s : State) : Nat → List Addr
  | 0 => []
  | n + 1 => s.pushAddrs n ++ [stackAddr (s.sp - BitVec.ofNat 8 n)]

/-- The stack bytes that `n` pops read, in their order (R43). -/
def State.popAddrs (s : State) : Nat → List Addr
  | 0 => []
  | n + 1 => s.popAddrs n ++ [stackAddr (s.sp + 1 + BitVec.ofNat 8 n)]

/-- The addresses read to form the effective address: the two bytes of the pointer (R51, R52); the other forms read none. -/
def Loc.pointerAddrs (l : Loc) (s : State) : List Addr :=
  match l with
  | .idxInd d => s.dpWordAddrs (d + s.x)
  | .indIdx d => s.dpWordAddrs d
  | .indX | .indY | .dp _ | .dpX _ | .dpY _ | .abs _ | .absX _ | .absY _ => []

/-- The addresses a read of the operand reads: the pointer's, then the operand's own. -/
def Loc.readAddrs (l : Loc) (s : State) : List Addr := l.pointerAddrs s ++ [l.addr s]

end Sys2Proof.Machine

namespace Sys2Proof

open Sys2Proof.Machine

/-- The addresses an instruction stores to in state `s`, in the order of the stores: each is what the instruction's own rule
computes, in the state its rule has reached when it forms the address. -/
def Instr.storesTo (i : Instr) (s : State) : List Addr :=
  match i with
  | .movIndXA | .movIndXIncA => [Loc.indX.addr s]
  | .movDpA d | .movDpX d | .movDpY d | .movDpImm _ d | .orDpImm _ d | .andDpImm _ d | .eorDpImm _ d
  | .adcDpImm _ d | .sbcDpImm _ d | .aslDp d | .lsrDp d | .rolDp d | .rorDp d | .set1 _ d | .clr1 _ d
  | .dbnzDp d _ | .incDp d | .decDp d => [(Loc.dp d).addr s]
  | .movDpXA d | .movDpXY d | .aslDpX d | .lsrDpX d | .rolDpX d | .rorDpX d | .incDpX d | .decDpX d => [(Loc.dpX d).addr s]
  | .movAbsA a | .movAbsX a | .movAbsY a | .aslAbs a | .lsrAbs a | .rolAbs a | .rorAbs a | .incAbs a
  | .decAbs a => [(Loc.abs a).addr s]
  | .movAbsXA a => [(Loc.absX a).addr s]
  | .movAbsYA a => [(Loc.absY a).addr s]
  | .movIdxIndA d => [(Loc.idxInd d).addr s]
  | .movIndIdxA d => [(Loc.indIdx d).addr s]
  | .movDpYX d => [(Loc.dpY d).addr s]
  | .movDpDp ds dd | .orDpDp ds dd | .andDpDp ds dd | .eorDpDp ds dd | .adcDpDp ds dd | .sbcDpDp ds dd =>
    [(Loc.dp dd).addr ((Loc.dp ds).after s)]
  | .movwDpYA d => s.dpWordAddrs d
  | .pushA | .pushX | .pushY | .pushPsw => s.pushAddrs 1
  | .orIndXIndY | .andIndXIndY | .eorIndXIndY | .adcIndXIndY | .sbcIndXIndY => [Loc.indX.addr (Loc.indY.after s)]
  | .tset1 a | .tclr1 a => [a]
  | .mov1MemC m _ | .not1 m _ => [m]
  | .call _ | .tcall _ | .pcall _ => s.pushAddrs 2
  | .brk => s.pushAddrs 3
  | .incw d | .decw d => (s.touchDpWord d).dpWordAddrs d
  | .movAImm _ | .movAIndX | .movAIndXInc | .movADp _ | .movADpX _ | .movAAbs _ | .movAAbsX _ | .movAAbsY _
  | .movAIdxInd _ | .movAIndIdx _ | .movXImm _ | .movXDp _ | .movXDpY _ | .movXAbs _ | .movYImm _ | .movYDp _
  | .movYDpX _ | .movYAbs _ | .movAX | .movAY | .movXA | .movYA | .movXSp | .movSpX | .movwYADp _ | .xcn
  | .popA | .popX | .popY | .popPsw | .orAImm _ | .orAIndX | .orADp _ | .orADpX _ | .orAAbs _ | .orAAbsX _
  | .orAAbsY _ | .orAIdxInd _ | .orAIndIdx _ | .andAImm _ | .andAIndX | .andADp _ | .andADpX _ | .andAAbs _
  | .andAAbsX _ | .andAAbsY _ | .andAIdxInd _ | .andAIndIdx _ | .eorAImm _ | .eorAIndX | .eorADp _ | .eorADpX _
  | .eorAAbs _ | .eorAAbsX _ | .eorAAbsY _ | .eorAIdxInd _ | .eorAIndIdx _ | .cmpAImm _ | .cmpAIndX | .cmpADp _
  | .cmpADpX _ | .cmpAAbs _ | .cmpAAbsX _ | .cmpAAbsY _ | .cmpAIdxInd _ | .cmpAIndIdx _ | .cmpIndXIndY
  | .cmpDpDp _ _ | .cmpDpImm _ _ | .adcAImm _ | .adcAIndX | .adcADp _ | .adcADpX _ | .adcAAbs _ | .adcAAbsX _
  | .adcAAbsY _ | .adcAIdxInd _ | .adcAIndIdx _ | .sbcAImm _ | .sbcAIndX | .sbcADp _ | .sbcADpX _ | .sbcAAbs _
  | .sbcAAbsX _ | .sbcAAbsY _ | .sbcAIdxInd _ | .sbcAIndIdx _ | .cmpXImm _ | .cmpXDp _ | .cmpXAbs _
  | .cmpYImm _ | .cmpYDp _ | .cmpYAbs _ | .addw _ | .subw _ | .mul | .div | .cmpw _ | .aslA | .lsrA | .rolA
  | .rorA | .bbs _ _ _ | .bbc _ _ _ | .or1 _ _ | .or1Not _ _ | .and1 _ _ | .and1Not _ _ | .eor1 _ _
  | .mov1CMem _ _ | .bpl _ | .bmi _ | .bvc _ | .bvs _ | .bcc _ | .bcs _ | .bne _ | .beq _ | .bra _ | .ret
  | .jmpAbs _ | .jmpIdxInd _ | .dbnzY _ | .cbneDp _ _ | .cbneDpX _ _ | .reti | .clrp | .setp | .clrc | .setc
  | .notc | .clrv | .ei | .di | .nop | .sleep | .stop | .daa | .das | .incA | .incX | .incY | .decA | .decX
  | .decY => []

/-- The data addresses an instruction reads in state `s`, in the order of the reads (R64): each is what the instruction's own
rule computes, in the state its rule has reached when it forms the address. The fetch is no part of it. -/
def Instr.readsFrom (i : Instr) (s : State) : List Addr :=
  match i with
  | .movAIndX | .movAIndXInc | .orAIndX | .andAIndX | .eorAIndX | .cmpAIndX | .adcAIndX | .sbcAIndX =>
    Loc.indX.readAddrs s
  | .movADp d | .movXDp d | .movYDp d | .movDpDp d _ | .orADp d | .andADp d | .eorADp d | .cmpADp d | .adcADp d
  | .sbcADp d | .cmpXDp d | .cmpYDp d | .orDpImm _ d | .andDpImm _ d | .eorDpImm _ d | .cmpDpImm _ d | .adcDpImm _ d
  | .sbcDpImm _ d | .aslDp d | .lsrDp d | .rolDp d | .rorDp d | .set1 _ d | .clr1 _ d | .bbs _ d _ | .bbc _ d _
  | .dbnzDp d _ | .cbneDp d _ | .incDp d | .decDp d => (Loc.dp d).readAddrs s
  | .movADpX d | .movYDpX d | .orADpX d | .andADpX d | .eorADpX d | .cmpADpX d | .adcADpX d | .sbcADpX d | .aslDpX d
  | .lsrDpX d | .rolDpX d | .rorDpX d | .cbneDpX d _ | .incDpX d | .decDpX d => (Loc.dpX d).readAddrs s
  | .movXDpY d => (Loc.dpY d).readAddrs s
  | .movAAbs a | .movXAbs a | .movYAbs a | .orAAbs a | .andAAbs a | .eorAAbs a | .cmpAAbs a | .adcAAbs a | .sbcAAbs a
  | .cmpXAbs a | .cmpYAbs a | .aslAbs a | .lsrAbs a | .rolAbs a | .rorAbs a | .incAbs a | .decAbs a | .tset1 a
  | .tclr1 a | .or1 a _ | .or1Not a _ | .and1 a _ | .and1Not a _ | .eor1 a _ | .mov1CMem a _ | .mov1MemC a _
  | .not1 a _ => (Loc.abs a).readAddrs s
  | .movAAbsX a | .orAAbsX a | .andAAbsX a | .eorAAbsX a | .cmpAAbsX a | .adcAAbsX a | .sbcAAbsX a =>
    (Loc.absX a).readAddrs s
  | .movAAbsY a | .orAAbsY a | .andAAbsY a | .eorAAbsY a | .cmpAAbsY a | .adcAAbsY a | .sbcAAbsY a =>
    (Loc.absY a).readAddrs s
  | .movAIdxInd d | .orAIdxInd d | .andAIdxInd d | .eorAIdxInd d | .cmpAIdxInd d | .adcAIdxInd d | .sbcAIdxInd d =>
    (Loc.idxInd d).readAddrs s
  | .movAIndIdx d | .orAIndIdx d | .andAIndIdx d | .eorAIndIdx d | .cmpAIndIdx d | .adcAIndIdx d | .sbcAIndIdx d =>
    (Loc.indIdx d).readAddrs s
  | .movIdxIndA d => (Loc.idxInd d).pointerAddrs s
  | .movIndIdxA d => (Loc.indIdx d).pointerAddrs s
  | .orIndXIndY | .andIndXIndY | .eorIndXIndY | .cmpIndXIndY | .adcIndXIndY | .sbcIndXIndY =>
    Loc.indY.readAddrs s ++ Loc.indX.readAddrs (Loc.indY.after s)
  | .orDpDp ds dd | .andDpDp ds dd | .eorDpDp ds dd | .cmpDpDp ds dd | .adcDpDp ds dd | .sbcDpDp ds dd =>
    (Loc.dp ds).readAddrs s ++ (Loc.dp dd).readAddrs ((Loc.dp ds).after s)
  | .movwYADp d | .addw d | .subw d | .cmpw d | .incw d | .decw d => s.dpWordAddrs d
  | .popA | .popX | .popY | .popPsw => s.popAddrs 1
  | .ret => s.popAddrs 2
  | .reti => s.popAddrs 3
  | .jmpIdxInd a => [s.jmpPointer a, s.jmpPointer a + 1]
  | .tcall n => [callVector n, callVector n + 1]
  | .brk => [trapVector, trapVector + 1]
  | .movAImm _ | .movXImm _ | .movYImm _ | .movIndXA | .movIndXIncA | .movDpA _ | .movDpXA _ | .movAbsA _
  | .movAbsXA _ | .movAbsYA _ | .movDpX _ | .movDpYX _ | .movAbsX _ | .movDpY _ | .movDpXY _ | .movAbsY _ | .movAX
  | .movAY | .movXA | .movYA | .movXSp | .movSpX | .movDpImm _ _ | .movwDpYA _ | .xcn | .pushA | .pushX | .pushY
  | .pushPsw | .orAImm _ | .andAImm _ | .eorAImm _ | .cmpAImm _ | .adcAImm _ | .sbcAImm _ | .cmpXImm _ | .cmpYImm _
  | .mul | .div | .aslA | .lsrA | .rolA | .rorA | .bpl _ | .bmi _ | .bvc _ | .bvs _ | .bcc _ | .bcs _ | .bne _
  | .beq _ | .bra _ | .call _ | .jmpAbs _ | .dbnzY _ | .pcall _ | .clrp | .setp | .clrc | .setc | .notc | .clrv | .ei
  | .di | .nop | .sleep | .stop | .daa | .das | .incA | .incX | .incY | .decA | .decX | .decY => []

/-- A tier E instruction with EXT_OPCODES false: it has no effect of its own (60_exceptions.md R304). -/
def Instr.unknown (i : Instr) (s : State) : Bool := isTierE i.opcode && !s.params.extOpcodes

end Sys2Proof

namespace Sys2Proof.Machine

/-- The state `t` with the program counter and the cycle count of an instruction `i` that began in `s` and falls through: the pc
at the following instruction (10_state.md R17), the cost added once (60_exceptions.md R312, 70_reset_and_hazards.md R346), under
the outcome not taken (log 7). -/
def State.ended (t s : State) (i : Instr) : State :=
  { t with pc := s.pc + BitVec.ofNat 16 i.length, cycle := s.cycle + s.params.cost i.opcode false }

/-- The state `t` with the program counter and the cycle count of a branch `i` that began in `s` (20_memory.md R54, R346): taken
to the following instruction's address plus the signed displacement, with the cost of the outcome. -/
def State.branched (t s : State) (i : Instr) (taken : Bool) (r : Byte) : State :=
  { t with
    pc := s.pc + BitVec.ofNat 16 i.length + (if taken then BitVec.ofInt 16 r.toInt else 0)
    cycle := s.cycle + s.params.cost i.opcode taken }

/-- The state `t` with the program counter at `target` and the cost of the jump `i` that began in `s` added, under the outcome
not taken: `i` has no condition (91_not_in_source.md N19 for BRA; log 7). -/
def State.jumped (t s : State) (i : Instr) (target : Addr) : State :=
  { t with pc := target, cycle := s.cycle + s.params.cost i.opcode false }

/-- The flags `f` with N and Z from a byte (00_scope.md R10 setNZ8). -/
def Psw.nz8 (f : Psw) (v : Byte) : Psw := { f with n := v.getLsbD 7, z := decide (v = 0) }

/-- The flags `f` with N and Z from a word (R10 setNZ16). -/
def Psw.nz16 (f : Psw) (w : Addr) : Psw := { f with n := w.getLsbD 15, z := decide (w = 0) }

/-! ### Instructions of one shape, by their operand forms -/

/-- The two-operand ALU operations that give a result. -/
inductive AluOp where
  | or | and | eor | adc | sbc
  deriving DecidableEq, Repr

/-- The result byte of an ALU operation on `x`, `m` and the carry `c` (41_alu8.md R128, R129, R130), on naturals. -/
def AluOp.value (op : AluOp) (x m : Byte) (c : Bool) : Byte :=
  match op with
  | .or => x ||| m
  | .and => x &&& m
  | .eor => x ^^^ m
  | .adc => BitVec.ofNat 8 ((x.toNat + m.toNat + c.toNat) % 256)
  | .sbc => BitVec.ofNat 8 ((x.toNat + 255 - m.toNat + c.toNat) % 256)

/-- Whether an exact signed result does not fit `w` bits: signed overflow (42_arith16.md R212). -/
def overflows (w : Nat) (exact : Int) : Bool := decide (exact < -(2 ^ (w - 1)) ∨ exact ≥ 2 ^ (w - 1))

/-- The flags after an ALU operation on `x` and `m` that began with flags `f`, `h` the draw of ADC (R128, R129, R130). -/
def AluOp.flags (op : AluOp) (x m : Byte) (f : Psw) (h : Bool) : Psw :=
  match op with
  | .or | .and | .eor => f.nz8 (op.value x m f.c)
  | .adc => { f.nz8 (op.value x m f.c) with
      c := decide (x.toNat + m.toNat + f.c.toNat > 255), v := overflows 8 (x.toInt + m.toInt + f.c.toNat), h := h }
  | .sbc => { f.nz8 (op.value x m f.c) with
      c := decide (x.toNat ≥ m.toNat + (1 - f.c.toNat)), v := overflows 8 (x.toInt - m.toInt - (1 - f.c.toNat)),
      h := overflows 8 (x.toInt - m.toInt - (1 - f.c.toNat)) }

/-- How many draws an ALU operation uses (R129: one for ADC's H). -/
def AluOp.draws : AluOp → Nat
  | .adc => 1
  | .or | .and | .eor | .sbc => 0

/-- The flags after a comparison of `x` with `m` (R131). -/
def Psw.compare (f : Psw) (x m : Byte) : Psw := { f.nz8 (x - m) with c := decide (x.toNat ≥ m.toNat) }

/-- The shifts and rotates. -/
inductive ShiftOp where
  | asl | lsr | rol | ror
  deriving DecidableEq, Repr

/-- The result byte of a shift of `v` with the old carry `c` (43_shift_rotate.md R218), on naturals. -/
def ShiftOp.value (op : ShiftOp) (v : Byte) (c : Bool) : Byte :=
  match op with
  | .asl => BitVec.ofNat 8 (v.toNat * 2 % 256)
  | .lsr => BitVec.ofNat 8 (v.toNat / 2)
  | .rol => BitVec.ofNat 8 (v.toNat * 2 % 256 + c.toNat)
  | .ror => BitVec.ofNat 8 (v.toNat / 2 + c.toNat * 128)

/-- The flags after a shift of `v` that began with flags `f`: C the bit shifted out (R218). -/
def ShiftOp.flags (op : ShiftOp) (v : Byte) (f : Psw) : Psw :=
  match op with
  | .asl | .rol => { f.nz8 (op.value v f.c) with c := v.getLsbD 7 }
  | .lsr | .ror => { f.nz8 (op.value v f.c) with c := v.getLsbD 0 }

/-- The shift of A (R219, R223, R227, R231). -/
def ShiftOp.onA : ShiftOp → Instr
  | .asl => .aslA
  | .lsr => .lsrA
  | .rol => .rolA
  | .ror => .rorA

/-- The eight conditions of 45_branches.md R251 to R258. -/
inductive Cond where
  | pl | mi | vc | vs | cc | cs | ne | eq
  deriving DecidableEq, Repr

/-- Whether a condition holds (R250). -/
def Cond.holds (c : Cond) (f : Psw) : Bool :=
  match c with
  | .pl => !f.n
  | .mi => f.n
  | .vc => !f.v
  | .vs => f.v
  | .cc => !f.c
  | .cs => f.c
  | .ne => !f.z
  | .eq => f.z

end Sys2Proof.Machine

namespace Sys2Proof

open Sys2Proof.Machine

/-- MOV of an immediate or memory operand into A, X or Y: the register and the operand. -/
def Instr.loadForm : Instr → Option (Reg × Src)
  | .movAImm i => some (.a, .imm i)
  | .movAIndX => some (.a, .mem .indX)
  | .movADp d => some (.a, .mem (.dp d))
  | .movADpX d => some (.a, .mem (.dpX d))
  | .movAAbs a => some (.a, .mem (.abs a))
  | .movAAbsX a => some (.a, .mem (.absX a))
  | .movAAbsY a => some (.a, .mem (.absY a))
  | .movAIdxInd d => some (.a, .mem (.idxInd d))
  | .movAIndIdx d => some (.a, .mem (.indIdx d))
  | .movXImm i => some (.x, .imm i)
  | .movXDp d => some (.x, .mem (.dp d))
  | .movXDpY d => some (.x, .mem (.dpY d))
  | .movXAbs a => some (.x, .mem (.abs a))
  | .movYImm i => some (.y, .imm i)
  | .movYDp d => some (.y, .mem (.dp d))
  | .movYDpX d => some (.y, .mem (.dpX d))
  | .movYAbs a => some (.y, .mem (.abs a))
  | _ => none

/-- MOV between registers into A, X or Y: destination and source. -/
def Instr.transferForm : Instr → Option (Reg × Reg)
  | .movAX => some (.a, .x)
  | .movAY => some (.a, .y)
  | .movXA => some (.x, .a)
  | .movYA => some (.y, .a)
  | .movXSp => some (.x, .sp)
  | _ => none

/-- MOV of A, X or Y into memory: the operand and the register. -/
def Instr.storeForm : Instr → Option (Loc × Reg)
  | .movIndXA => some (.indX, .a)
  | .movDpA d => some (.dp d, .a)
  | .movDpXA d => some (.dpX d, .a)
  | .movAbsA a => some (.abs a, .a)
  | .movAbsXA a => some (.absX a, .a)
  | .movAbsYA a => some (.absY a, .a)
  | .movIdxIndA d => some (.idxInd d, .a)
  | .movIndIdxA d => some (.indIdx d, .a)
  | .movDpX d => some (.dp d, .x)
  | .movDpYX d => some (.dpY d, .x)
  | .movAbsX a => some (.abs a, .x)
  | .movDpY d => some (.dp d, .y)
  | .movDpXY d => some (.dpX d, .y)
  | .movAbsY a => some (.abs a, .y)
  | _ => none

/-- The ALU forms whose destination is A: the operation and the source. -/
def Instr.accForm : Instr → Option (AluOp × Src)
  | .orAImm i => some (.or, .imm i)
  | .orAIndX => some (.or, .mem .indX)
  | .orADp d => some (.or, .mem (.dp d))
  | .orADpX d => some (.or, .mem (.dpX d))
  | .orAAbs a => some (.or, .mem (.abs a))
  | .orAAbsX a => some (.or, .mem (.absX a))
  | .orAAbsY a => some (.or, .mem (.absY a))
  | .orAIdxInd d => some (.or, .mem (.idxInd d))
  | .orAIndIdx d => some (.or, .mem (.indIdx d))
  | .andAImm i => some (.and, .imm i)
  | .andAIndX => some (.and, .mem .indX)
  | .andADp d => some (.and, .mem (.dp d))
  | .andADpX d => some (.and, .mem (.dpX d))
  | .andAAbs a => some (.and, .mem (.abs a))
  | .andAAbsX a => some (.and, .mem (.absX a))
  | .andAAbsY a => some (.and, .mem (.absY a))
  | .andAIdxInd d => some (.and, .mem (.idxInd d))
  | .andAIndIdx d => some (.and, .mem (.indIdx d))
  | .eorAImm i => some (.eor, .imm i)
  | .eorAIndX => some (.eor, .mem .indX)
  | .eorADp d => some (.eor, .mem (.dp d))
  | .eorADpX d => some (.eor, .mem (.dpX d))
  | .eorAAbs a => some (.eor, .mem (.abs a))
  | .eorAAbsX a => some (.eor, .mem (.absX a))
  | .eorAAbsY a => some (.eor, .mem (.absY a))
  | .eorAIdxInd d => some (.eor, .mem (.idxInd d))
  | .eorAIndIdx d => some (.eor, .mem (.indIdx d))
  | .adcAImm i => some (.adc, .imm i)
  | .adcAIndX => some (.adc, .mem .indX)
  | .adcADp d => some (.adc, .mem (.dp d))
  | .adcADpX d => some (.adc, .mem (.dpX d))
  | .adcAAbs a => some (.adc, .mem (.abs a))
  | .adcAAbsX a => some (.adc, .mem (.absX a))
  | .adcAAbsY a => some (.adc, .mem (.absY a))
  | .adcAIdxInd d => some (.adc, .mem (.idxInd d))
  | .adcAIndIdx d => some (.adc, .mem (.indIdx d))
  | .sbcAImm i => some (.sbc, .imm i)
  | .sbcAIndX => some (.sbc, .mem .indX)
  | .sbcADp d => some (.sbc, .mem (.dp d))
  | .sbcADpX d => some (.sbc, .mem (.dpX d))
  | .sbcAAbs a => some (.sbc, .mem (.abs a))
  | .sbcAAbsX a => some (.sbc, .mem (.absX a))
  | .sbcAAbsY a => some (.sbc, .mem (.absY a))
  | .sbcAIdxInd d => some (.sbc, .mem (.idxInd d))
  | .sbcAIndIdx d => some (.sbc, .mem (.indIdx d))
  | _ => none

/-- The ALU forms whose destination is a memory byte (41_alu8.md R132): operation, destination, source. -/
def Instr.memForm : Instr → Option (AluOp × Loc × Src)
  | .orIndXIndY => some (.or, .indX, .mem .indY)
  | .orDpDp ds dd => some (.or, .dp dd, .mem (.dp ds))
  | .orDpImm i d => some (.or, .dp d, .imm i)
  | .andIndXIndY => some (.and, .indX, .mem .indY)
  | .andDpDp ds dd => some (.and, .dp dd, .mem (.dp ds))
  | .andDpImm i d => some (.and, .dp d, .imm i)
  | .eorIndXIndY => some (.eor, .indX, .mem .indY)
  | .eorDpDp ds dd => some (.eor, .dp dd, .mem (.dp ds))
  | .eorDpImm i d => some (.eor, .dp d, .imm i)
  | .adcIndXIndY => some (.adc, .indX, .mem .indY)
  | .adcDpDp ds dd => some (.adc, .dp dd, .mem (.dp ds))
  | .adcDpImm i d => some (.adc, .dp d, .imm i)
  | .sbcIndXIndY => some (.sbc, .indX, .mem .indY)
  | .sbcDpDp ds dd => some (.sbc, .dp dd, .mem (.dp ds))
  | .sbcDpImm i d => some (.sbc, .dp d, .imm i)
  | _ => none

/-- CMP of a register: the register and the other operand. -/
def Instr.compareForm : Instr → Option (Reg × Src)
  | .cmpAImm i => some (.a, .imm i)
  | .cmpAIndX => some (.a, .mem .indX)
  | .cmpADp d => some (.a, .mem (.dp d))
  | .cmpADpX d => some (.a, .mem (.dpX d))
  | .cmpAAbs a => some (.a, .mem (.abs a))
  | .cmpAAbsX a => some (.a, .mem (.absX a))
  | .cmpAAbsY a => some (.a, .mem (.absY a))
  | .cmpAIdxInd d => some (.a, .mem (.idxInd d))
  | .cmpAIndIdx d => some (.a, .mem (.indIdx d))
  | .cmpXImm i => some (.x, .imm i)
  | .cmpXDp d => some (.x, .mem (.dp d))
  | .cmpXAbs a => some (.x, .mem (.abs a))
  | .cmpYImm i => some (.y, .imm i)
  | .cmpYDp d => some (.y, .mem (.dp d))
  | .cmpYAbs a => some (.y, .mem (.abs a))
  | _ => none

/-- CMP of a memory byte: first operand and second operand. -/
def Instr.compareMemForm : Instr → Option (Loc × Src)
  | .cmpIndXIndY => some (.indX, .mem .indY)
  | .cmpDpDp ds dd => some (.dp dd, .mem (.dp ds))
  | .cmpDpImm i d => some (.dp d, .imm i)
  | _ => none

/-- The shifts and rotates of memory. -/
def Instr.shiftMemForm : Instr → Option (ShiftOp × Loc)
  | .aslDp d => some (.asl, .dp d)
  | .aslDpX d => some (.asl, .dpX d)
  | .aslAbs a => some (.asl, .abs a)
  | .lsrDp d => some (.lsr, .dp d)
  | .lsrDpX d => some (.lsr, .dpX d)
  | .lsrAbs a => some (.lsr, .abs a)
  | .rolDp d => some (.rol, .dp d)
  | .rolDpX d => some (.rol, .dpX d)
  | .rolAbs a => some (.rol, .abs a)
  | .rorDp d => some (.ror, .dp d)
  | .rorDpX d => some (.ror, .dpX d)
  | .rorAbs a => some (.ror, .abs a)
  | _ => none

/-- INC and DEC of memory: true for INC, and the operand. -/
def Instr.stepMemForm : Instr → Option (Bool × Loc)
  | .incDp d => some (true, .dp d)
  | .incDpX d => some (true, .dpX d)
  | .incAbs a => some (true, .abs a)
  | .decDp d => some (false, .dp d)
  | .decDpX d => some (false, .dpX d)
  | .decAbs a => some (false, .abs a)
  | _ => none

/-- INC and DEC of a register: true for INC, and the register. -/
def Instr.stepRegForm : Instr → Option (Bool × Reg)
  | .incA => some (true, .a)
  | .incX => some (true, .x)
  | .incY => some (true, .y)
  | .decA => some (false, .a)
  | .decX => some (false, .x)
  | .decY => some (false, .y)
  | _ => none

/-- The eight conditional branches: the condition and the displacement. -/
def Instr.condForm : Instr → Option (Cond × Byte)
  | .bpl r => some (.pl, r)
  | .bmi r => some (.mi, r)
  | .bvc r => some (.vc, r)
  | .bvs r => some (.vs, r)
  | .bcc r => some (.cc, r)
  | .bcs r => some (.cs, r)
  | .bne r => some (.ne, r)
  | .beq r => some (.eq, r)
  | _ => none

end Sys2Proof
end

