-- ==== Sys2Proof/Certificates/Slice0/Obligations.lean ====
section
/-! DEFINITION. The statements for the provers, each with the rule of spec/ it formalises or rests on. -/

open Sys2Proof Sys2Proof.Machine

/-! ### Decoding and encoding (30_encoding.md) -/

/-- Decoding the bytes of a well-formed instruction gives it back and leaves the bytes after it alone (R65, R66, R67). -/
def Obligations.DecodeOfEncode : Prop :=
  ∀ (i : Instr) (rest : List Byte), i.WellFormed → decode (encode i ++ rest) = .ok (i, rest)

/-- What decodes is well-formed, and its encoding is the bytes it was decoded from: no byte has two readings (R65, R70). -/
def Obligations.EncodeOfDecode : Prop :=
  ∀ (bytes : List Byte) (i : Instr) (rest : List Byte),
    decode bytes = .ok (i, rest) → i.WellFormed ∧ encode i ++ rest = bytes

/-- The length is 1, 2 or 3 and depends on the opcode byte alone; decoding fails only on a list that ends too soon; 75 opcodes
have length 1, 99 length 2, 82 length 3 (R65). -/
def Obligations.InstructionLengths : Prop :=
  (∀ (op : Byte) (rest : List Byte),
    1 ≤ lengthOf op ∧ lengthOf op ≤ 3 ∧
      (lengthOf op ≤ rest.length + 1 → ∃ i, decode (op :: rest) = .ok (i, rest.drop (lengthOf op - 1)) ∧
        i.length = lengthOf op ∧ i.opcode = op) ∧
      (rest.length + 1 < lengthOf op → decode (op :: rest) = .error (.truncated op))) ∧
    (List.range 256).countP (fun k => lengthOf (BitVec.ofNat 8 k) == 1) = 75 ∧
    (List.range 256).countP (fun k => lengthOf (BitVec.ofNat 8 k) == 2) = 99 ∧
    (List.range 256).countP (fun k => lengthOf (BitVec.ofNat 8 k) == 3) = 82

/-- One word of each format, written out from the spec, decodes to the instruction it stands for (R66, R68, R70). -/
def Obligations.SampleWords : Prop :=
  decode [0x6F] = .ok (.ret, []) ∧
    decode [0xE8, 0x9A] = .ok (.movAImm 0x9A, []) ∧
    decode [0xF4, 0x20] = .ok (.movADpX 0x20, []) ∧
    decode [0x10, 0x05] = .ok (.bpl 0x05, []) ∧
    decode [0x4F, 0x40] = .ok (.pcall 0x40, []) ∧
    decode [0x3F, 0x34, 0x12] = .ok (.call 0x1234, []) ∧
    decode [0x03, 0x10, 0x05] = .ok (.bbs 0 0x10 0x05, []) ∧
    decode [0x73, 0x20, 0xFB] = .ok (.bbc 3 0x20 0xFB, []) ∧
    decode [0x62, 0x20] = .ok (.set1 3 0x20, []) ∧
    decode [0x41] = .ok (.tcall 4, []) ∧
    decode [0x09, 0x20, 0x21] = .ok (.orDpDp 0x20 0x21, []) ∧
    decode [0x18, 0x9A, 0x20] = .ok (.orDpImm 0x9A 0x20, []) ∧
    decode [0x0A, 0x34, 0xA2] = .ok (.or1 0x0234 5, []) ∧
    decode [0x0B, 0x20] = .ok (.aslDp 0x20, []) ∧
    decode [0x7A, 0x20] = .ok (.addw 0x20, []) ∧
    decode [0x3A, 0x20] = .ok (.incw 0x20, []) ∧
    decode [0x00] = .ok (.nop, [])

/-! ### The machine step (60_exceptions.md) -/

/-- A step runs the decoded instruction. Where the bytes the fetch reads at the pc decode to `i`, the step is `exec i` in the
state after the fetch, then the end of the step; where none of the three addresses is 0x00F3 or a counter, the bytes are the
RAM bytes and the fetch changes nothing (R312; 20_memory.md R62, R63). -/
def Obligations.StepRunsDecoded : Prop :=
  ∀ (s : State) (i : Instr) (rest : List Byte), s.run = .running →
    (isTierE (s.peek s.pc) = true → s.params.extOpcodes = true) →
    (decode [s.fetchBytes.op, s.fetchBytes.b1, s.fetchBytes.b2] = .ok (i, rest) →
      step s = match exec i s.afterFetch with
        | .next t => .next t.endStep
        | .fault r => .fault r
        | .refused r => .refused r) ∧
    (PlainAddr s.pc → PlainAddr (s.pc + 1) → PlainAddr (s.pc + 2) →
      decode [s.ram.read s.pc, s.ram.read (s.pc + 1), s.ram.read (s.pc + 2)] = .ok (i, rest) →
      step s = match exec i s with
        | .next t => .next t.endStep
        | .fault r => .fault r
        | .refused r => .refused r)

/-- Every instruction completes in every state, and a step exists exactly where the CPU is running: a halted and a faulted CPU
have none (R303, R306; 10_state.md R20). That the missing step is a named fault is the model's own form (log 10). -/
def Obligations.StepExists : Prop :=
  (∀ (i : Instr) (s : State), ∃ t, exec i s = .next t) ∧
    (∀ s : State, s.run = .running → ∃ t, step s = .next t) ∧
    (∀ s : State, s.run = .halted → step s = .fault .cpuHalted) ∧
    (∀ s : State, s.run = .faulted → step s = .fault .cpuFaulted)

/-- The unknown set is the list of R73, and with EXT_OPCODES false a step at one of its bytes raises UnknownOpcode: run and
fault_info, and nothing else but the side effect of reading the opcode byte; so does the instruction itself (R304, R306). -/
def Obligations.UnknownOpcode : Prop :=
  (∀ op : Byte, isTierE op = true ↔
    op ∈ ([0x01, 0x11, 0x21, 0x31, 0x41, 0x51, 0x61, 0x71, 0x81, 0x91, 0xA1, 0xB1, 0xC1, 0xD1, 0xE1, 0xF1] : List Byte) ++
      [0x4F, 0x7F, 0x5A, 0xDF, 0xBE, 0x0A, 0x2A, 0x4A, 0x6A, 0x8A, 0xEA, 0xAA, 0xCA]) ∧
    (∀ s : State, s.run = .running → s.params.extOpcodes = false → isTierE (s.peek s.pc) = true →
      step s = .next { s.touch s.pc with
        run := .faulted, faultInfo := some { op := s.peek s.pc, pc := s.pc } }) ∧
    (∀ (i : Instr) (s : State), isTierE i.opcode = true → s.params.extOpcodes = false →
      exec i s = .next { s with run := .faulted, faultInfo := some { op := i.opcode, pc := s.pc } })

/-- The end of a step (timers and samples) leaves the CPU, RAM, the DSP index and `cycle` alone (R312, R339; 20_memory.md
R57). -/
def Obligations.EndStepLeavesCpu : Prop :=
  ∀ s : State,
    s.endStep.a = s.a ∧ s.endStep.x = s.x ∧ s.endStep.y = s.y ∧ s.endStep.sp = s.sp ∧ s.endStep.pc = s.pc ∧
      s.endStep.psw = s.psw ∧ s.endStep.run = s.run ∧ s.endStep.faultInfo = s.faultInfo ∧ s.endStep.ram = s.ram ∧
      s.endStep.dspAddr = s.dspAddr ∧ s.endStep.cycle = s.cycle ∧ s.endStep.draws = s.draws ∧
      s.endStep.params = s.params

/-- A step only appends output, one pair per sample counted (R314; 10_state.md R27). -/
def Obligations.OutputsAppend : Prop :=
  ∀ s t : State, step s = .next t →
    ∃ new : List Sample, t.out = s.out ++ new ∧ t.sampleCounter = s.sampleCounter + new.length

/-! ### Invariants every step keeps -/

/-- RAM stays in its canonical form (10_state.md R21; the form is the model's, log 2). -/
def Obligations.StepKeepsMemory : Prop := ∀ s t : State, s.MemoryOk → step s = .next t → t.MemoryOk

/-- "when `timer[i].enabled = 0` all five fields are 0" (10_state.md R24). -/
def Obligations.StepKeepsTimers : Prop := ∀ s t : State, s.TimersOk → step s = .next t → t.TimersOk

/-- The envelope of every voice stays 0 to 2047 and its phase accumulator below 0x10000 between samples (10_state.md R26). -/
def Obligations.StepKeepsVoices : Prop := ∀ s t : State, s.VoicesOk → step s = .next t → t.VoicesOk

/-- "After every machine step `next_sample_cycle > cycle` and `sample_counter = floor(cycle / 64)`" (R313), for any COST. -/
def Obligations.StepKeepsScheduler : Prop :=
  ∀ s t : State, s.SchedulerOk → step s = .next t → t.SchedulerOk ∧ t.sampleCounter = t.cycle / 64

/-- `fault_info` has a value exactly when the CPU is faulted (10_state.md R20, R304). -/
def Obligations.StepKeepsFaultInfo : Prop := ∀ s t : State, s.FaultOk → step s = .next t → t.FaultOk

/-- The reset state is the launch from the all-zero snapshot with the default parameters, and meets every invariant
(10_state.md R29). The zeros of the launch state are the model's choice (log 1, 2, 3). -/
def Obligations.ResetMeetsInvariants : Prop :=
  State.reset = State.launch Params.default Snapshot.zero ∧ State.reset.Inv

/-- The launch from any snapshot, with any fabric writes of the host after it, meets every invariant; the launch itself fixes
what R29 fixes (10_state.md R29; 70_reset_and_hazards.md R340, R341). -/
def Obligations.LaunchMeetsInvariants : Prop :=
  ∀ (p : Params) (k : Snapshot) (ws : List (Addr × Byte)), k.ram.wf = true →
    ((State.launch p k).hostWrites ws).Inv ∧
      (State.launch p k).run = .running ∧ (State.launch p k).dspAddr.toNat = (k.ram.read 0x00F2#16).toNat % 128 ∧
      (∀ i : Fin 3, (State.launch p k).timers.get i = Timer.off) ∧
      (∀ v : Fin 8, (State.launch p k).dsp.voice v = Voice.off) ∧
      (State.launch p k).cycle = 0 ∧ (State.launch p k).sampleCounter = 0 ∧ (State.launch p k).nextSampleCycle = 64

/-! ### What no instruction changes -/

/-- A byte register changes only by an instruction that R16 names as its writer (10_state.md R16). -/
def Obligations.RegisterFrame : Prop :=
  ∀ (i : Instr) (s t : State) (r : Reg), exec i s = .next t → i.writes r = false → t.reg r = s.reg r

/-- A flag changes only by an instruction that R19 names as its writer (10_state.md R19; 00_scope.md R13). -/
def Obligations.FlagFrame : Prop :=
  ∀ (i : Instr) (s t : State), exec i s = .next t →
    (i.writesNZ = false → t.psw.n = s.psw.n ∧ t.psw.z = s.psw.z) ∧
      (i.writesVH = false → t.psw.v = s.psw.v ∧ t.psw.h = s.psw.h) ∧
      (i.writesC = false → t.psw.c = s.psw.c) ∧
      (i.writesP = false → t.psw.p = s.psw.p) ∧
      (i.writesB = false → t.psw.b = s.psw.b) ∧
      (i.writesI = false → t.psw.i = s.psw.i)

/-- Every byte of RAM is unchanged except those the instruction stores to, and so is every byte read through the fabric at a
plain address (20_memory.md R32, R64). -/
def Obligations.MemoryFrame : Prop :=
  ∀ (i : Instr) (s t : State) (a : Addr), exec i s = .next t → a ∉ i.storesTo s →
    t.ram.read a = s.ram.read a ∧ (PlainAddr a → t.peek a = s.peek a)

/-- The devices change only by an access to their registers: the DSP index by a store to 0x00F2, the DSP by a store to 0x00F3; and
where 0x00F1 is not stored to, a timer is unchanged unless the instruction reads 0x00FD + j, and such a read clears its counter
and nothing else of it (20_memory.md R31, R32, R64; 60_exceptions.md R319). -/
def Obligations.DeviceFrame : Prop :=
  ∀ (i : Instr) (s t : State), exec i s = .next t →
    (0x00F2#16 ∉ i.storesTo s → t.dspAddr = s.dspAddr) ∧
      (0x00F3#16 ∉ i.storesTo s → t.dsp = s.dsp) ∧
      (0x00F1#16 ∉ i.storesTo s → ∀ j : Fin 3,
        (0x00FD#16 + BitVec.ofNat 16 j.val ∉ i.readsFrom s → t.timers.get j = s.timers.get j) ∧
          (0x00FD#16 + BitVec.ofNat 16 j.val ∈ i.readsFrom s → i.unknown s = false →
            t.timers.get j = { s.timers.get j with counter := 0 }))

/-- The rest of the state: an instruction never touches the scheduler or the parameters; it uses a draw only where R11 says so;
it costs what COST says, once; only SLEEP and STOP change the run state, but for an unknown opcode (R312, R346, R305). -/
def Obligations.ControlFrame : Prop :=
  ∀ (i : Instr) (s t : State), exec i s = .next t →
    t.params = s.params ∧ t.sampleCounter = s.sampleCounter ∧ t.nextSampleCycle = s.nextSampleCycle ∧ t.out = s.out ∧
      (i.drawsValues = false → t.draws = s.draws) ∧
      (i.unknown s = false →
        t.faultInfo = s.faultInfo ∧ (∃ taken, t.cycle = s.cycle + s.params.cost i.opcode taken) ∧
          (i ≠ .sleep → i ≠ .stop → t.run = s.run))

/-- Nothing reads B and I but PUSH PSW and BRK: any other instruction does the same whatever the two flags are (10_state.md R18,
R19; R305). -/
def Obligations.InertFlags : Prop :=
  ∀ (i : Instr) (s t u : State) (b j : Bool), i ≠ .pushPsw → i ≠ .brk →
    exec i s = .next t → exec i { s with psw := { s.psw with b := b, i := j } } = .next u →
    { u with psw := { u.psw with b := t.psw.b, i := t.psw.i } } = t

/-- "No instruction's own result (registers, flags, memory, `pc`) depends on it": with another COST table an instruction does
the same but for `cycle` (70_reset_and_hazards.md R346). -/
def Obligations.CostIndependence : Prop :=
  ∀ (i : Instr) (s t : State) (costs : List CostEntry), exec i s = .next t →
    ∃ n : Nat, exec i { s with params := { s.params with costs := costs } } =
      .next { t with params := { t.params with costs := costs }, cycle := n }

/-! ### The memory fabric (20_memory.md) -/

/-- "write_byte(a, v); read_byte(a) = v, for every address a not in {0xF3, 0xFD, 0xFE, 0xFF} and every v"; and a write leaves
what any other plain address reads as (R37, R32). -/
def Obligations.ReadAfterWrite : Prop :=
  ∀ (s : State) (a b : Addr) (v : Byte), s.MemoryOk → PlainAddr a → PlainAddr b →
    (s.memWrite a v).peek a = v ∧ (b ≠ a → (s.memWrite a v).peek b = s.peek b)

/-- Reads of the register window (R31): 0x00F3 gives the selected DSP register, 0x00FD to 0x00FF a counter which the read
clears, every other address RAM; a disabled timer's counter reads 0. -/
def Obligations.WindowReads : Prop :=
  ∀ s : State,
    s.peek 0x00F3#16 = s.dsp.reg s.dspAddr ∧ s.touch 0x00F3#16 = s ∧
      (∀ j : Fin 3, s.peek (0x00FD#16 + BitVec.ofNat 16 j.val) = (s.timers.get j).counter.setWidth 8 ∧
        s.touch (0x00FD#16 + BitVec.ofNat 16 j.val) =
          { s with timers := s.timers.set j.val { s.timers.get j with counter := 0 } j.isLt } ∧
        (s.TimersOk → (s.timers.get j).enabled = false → s.peek (0x00FD#16 + BitVec.ofNat 16 j.val) = 0)) ∧
      (∀ a : Addr, PlainAddr a → s.peek a = s.ram.read a ∧ s.touch a = s)

/-- Writes to the register window (R32): Control acts on all three timers every time, the DSP index keeps seven bits and stores
the byte, DSP data goes to the DSP and leaves RAM, a counter ignores the write, every other address is RAM. -/
def Obligations.WindowWrites : Prop :=
  ∀ (s : State) (v : Byte),
    s.memWrite 0x00F1#16 v = { s with
      ram := s.ram.write 0x00F1#16 v
      timers := Vector.ofFn fun j : Fin 3 =>
        if v.getLsbD j.val then
          { enabled := true, nextTick := s.cycle + (if j = 2 then 32 else 256), pre := 0, counter := 0,
            divisor := s.ram.read (0x00FA#16 + BitVec.ofNat 16 j.val) }
        else { enabled := false, nextTick := 0, pre := 0, counter := 0, divisor := 0 } } ∧
    s.memWrite 0x00F2#16 v = { s with
      ram := s.ram.write 0x00F2#16 v, dspAddr := BitVec.ofNat 7 (v.toNat % 128) } ∧
    s.memWrite 0x00F3#16 v = { s with dsp := dspWrite s.ram s.sampleCounter s.dspAddr v s.dsp } ∧
    s.memWrite 0x00FD#16 v = s ∧ s.memWrite 0x00FE#16 v = s ∧ s.memWrite 0x00FF#16 v = s ∧
    (∀ a : Addr, PlainAddr a → a ≠ 0x00F1#16 → a ≠ 0x00F2#16 → s.memWrite a v = { s with ram := s.ram.write a v })

/-- `Push` and `Pop` (R42, R43): the store at 0x0100 + SP and then SP - 1; SP + 1 and then the read; the stack is in page 1
whatever P is; SP wraps; a pushed byte pops back. -/
def Obligations.PushPop : Prop :=
  ∀ (s : State) (v : Byte),
    s.push v = { s.memWrite (0x0100#16 + s.sp.setWidth 16) v with sp := s.sp - 1 } ∧
      s.popValue = s.peek (0x0100#16 + (s.sp + 1).setWidth 16) ∧
      s.popped = { s with sp := s.sp + 1 } ∧
      (s.MemoryOk → (s.push v).popValue = v ∧ (s.push v).popped.sp = s.sp)

/-- `dp(o)` (R40): the page by P as it is when the address is formed, plus the offset; an index is added to the offset inside
the page. -/
def Obligations.DirectPage : Prop :=
  ∀ (s : State) (o : Byte),
    (s.dp o).toNat = (if s.psw.p then 0x0100 else 0x0000) + o.toNat ∧
      ((Loc.dp o).addr s).toNat = (if s.psw.p then 0x0100 else 0x0000) + o.toNat ∧
      ((Loc.dpX o).addr s).toNat = (if s.psw.p then 0x0100 else 0x0000) + (o.toNat + s.x.toNat) % 256 ∧
      ((Loc.dpY o).addr s).toNat = (if s.psw.p then 0x0100 else 0x0000) + (o.toNat + s.y.toNat) % 256

/-- The effective addresses (R41, R47 to R52), on naturals: the pointer is a little-endian direct-page word, its high byte's
address by DP_WORD_WRAP. -/
def Obligations.OperandAddresses : Prop :=
  ∀ (s : State) (d : Byte) (a : Addr),
    (s.dpWord d).toNat = (s.peek (s.dp d)).toNat + 256 * ((s.touch (s.dp d)).peek (s.dphi d)).toNat ∧
      (s.params.dpWordWrap = .linear → (s.dphi d).toNat = (s.dp d).toNat + 1) ∧
      (s.params.dpWordWrap = .page →
        (s.dphi d).toNat = (if s.psw.p then 0x0100 else 0x0000) + (d.toNat + 1) % 256) ∧
      (Loc.indX.addr s).toNat = (if s.psw.p then 0x0100 else 0x0000) + s.x.toNat ∧
      (Loc.indY.addr s).toNat = (if s.psw.p then 0x0100 else 0x0000) + s.y.toNat ∧
      (Loc.abs a).addr s = a ∧
      ((Loc.absX a).addr s).toNat = (a.toNat + s.x.toNat) % 65536 ∧
      ((Loc.absY a).addr s).toNat = (a.toNat + s.y.toNat) % 65536 ∧
      (Loc.idxInd d).addr s = s.dpWord (d + s.x) ∧
      ((Loc.indIdx d).addr s).toNat = ((s.dpWord d).toNat + s.y.toNat) % 65536

/-! ### Round trips -/

/-- "CALL then RET round-trips PC+3" (46_control_flow.md R262); BRK then RETI, and BRK then POP PSW and RET, restore the flags,
SP and the address after BRK (60_exceptions.md R308). -/
def Obligations.ReturnsRoundTrip : Prop :=
  (∀ (s t u : State) (a : Addr), s.MemoryOk → exec (.call a) s = .next t → exec .ret t = .next u →
    t.pc = a ∧ u.pc = s.pc + 3 ∧ u.sp = s.sp) ∧
    (∀ s t u : State, s.MemoryOk → s.params.extOpcodes = true → exec .brk s = .next t → exec .reti t = .next u →
      u.pc = s.pc + 1 ∧ u.psw = s.psw ∧ u.sp = s.sp) ∧
    (∀ s t u w : State, s.MemoryOk → exec .brk s = .next t → exec .popPsw t = .next u → exec .ret u = .next w →
      w.pc = s.pc + 1 ∧ w.psw = s.psw ∧ w.sp = s.sp)

/-! ### The byte operations (41_alu8.md R128, R131; 43_shift_rotate.md R218) -/

/-- OR, AND and EOR bit by bit with N and Z from the result (R128); the comparison (R131); the four one-bit shifts (R218): each
with exactly the flags it writes. -/
def Obligations.ByteOperations : Prop :=
  ∀ (x m : Byte) (s : State),
    or8 x m s = (x ||| m, { s with psw := s.psw.nz8 (x ||| m) }) ∧
      and8 x m s = (x &&& m, { s with psw := s.psw.nz8 (x &&& m) }) ∧
      eor8 x m s = (x ^^^ m, { s with psw := s.psw.nz8 (x ^^^ m) }) ∧
      cmp8 x m s = { s with psw := { s.psw.nz8 (x - m) with c := decide (x.toNat ≥ m.toNat) } } ∧
      asl8 x s = (BitVec.ofNat 8 (x.toNat * 2 % 256), { s with psw := ShiftOp.asl.flags x s.psw }) ∧
      lsr8 x s = (BitVec.ofNat 8 (x.toNat / 2), { s with psw := ShiftOp.lsr.flags x s.psw }) ∧
      rol8 x s = (BitVec.ofNat 8 (x.toNat * 2 % 256 + s.psw.c.toNat), { s with psw := ShiftOp.rol.flags x s.psw }) ∧
      ror8 x s = (BitVec.ofNat 8 (x.toNat / 2 + s.psw.c.toNat * 128), { s with psw := ShiftOp.ror.flags x s.psw })

/-! ### What each instruction does: its result and that it completes -/

/-- MOV into A, X or Y from an immediate, from memory or from another register: the byte moved, N and Z from it; MOV SP,X with no
flag (40_data_movement.md R75 to R77, R79 to R93, R109 to R114). -/
def Obligations.Loads : Prop :=
  ∀ (i : Instr) (s : State),
    (∀ (r : Reg) (o : Src), i.loadForm = some (r, o) →
      exec i s = .next (State.ended { (o.after s).setReg r (o.value s) with psw := s.psw.nz8 (o.value s) } s i)) ∧
    (∀ d r : Reg, i.transferForm = some (d, r) →
      exec i s = .next (State.ended { s.setReg d (s.reg r) with psw := s.psw.nz8 (s.reg r) } s i)) ∧
    exec .movSpX s = .next (State.ended { s with sp := s.x } s .movSpX)

/-- MOV A,(X)+ and MOV (X)+,A: the access at the address before the increment, then X + 1 (R78, R95; 20_memory.md R48). -/
def Obligations.PostIncrement : Prop :=
  ∀ s : State,
    exec .movAIndXInc s = .next (State.ended
      { s.touch (s.dp s.x) with a := s.peek (s.dp s.x), x := s.x + 1, psw := s.psw.nz8 (s.peek (s.dp s.x)) }
      s .movAIndXInc) ∧
    exec .movIndXIncA s = .next (State.ended { s.memWrite (s.dp s.x) s.a with x := s.x + 1 } s .movIndXIncA)

/-- MOV into memory: one write and no read of the destination, no flag (R94, R96 to R108, R115, R116). -/
def Obligations.Stores : Prop :=
  ∀ (i : Instr) (s : State),
    (∀ (l : Loc) (r : Reg), i.storeForm = some (l, r) →
      exec i s = .next (State.ended ((l.walk s).memWrite (l.addr s) (s.reg r)) s i)) ∧
    (∀ ds dd : Byte, exec (.movDpDp ds dd) s =
      .next (State.ended ((s.touch (s.dp ds)).memWrite (s.dp dd) (s.peek (s.dp ds))) s (.movDpDp ds dd))) ∧
    (∀ m d : Byte, exec (.movDpImm m d) s = .next (State.ended (s.memWrite (s.dp d) m) s (.movDpImm m d)))

/-- MOVW YA,$dp (Z iff both bytes are zero, N from Y's bit 7), MOVW $dp,YA (low byte first) and XCN (R117 to R119). -/
def Obligations.WordMoves : Prop :=
  ∀ (s : State) (d : Byte),
    exec (.movwYADp d) s = .next (State.ended
      { (s.touch (s.dp d)).touch (s.dphi d) with
        a := s.peek (s.dp d)
        y := (s.touch (s.dp d)).peek (s.dphi d)
        psw := { s.psw with
          n := ((s.touch (s.dp d)).peek (s.dphi d)).getLsbD 7
          z := decide (s.peek (s.dp d) = 0 ∧ (s.touch (s.dp d)).peek (s.dphi d) = 0) } }
      s (.movwYADp d)) ∧
    exec (.movwDpYA d) s =
      .next (State.ended ((s.memWrite (s.dp d) s.a).memWrite (s.dphi d) s.y) s (.movwDpYA d)) ∧
    exec .xcn s = .next (State.ended
      { s with a := BitVec.ofNat 8 (s.a.toNat % 16 * 16 + s.a.toNat / 16)
               psw := s.psw.nz8 (BitVec.ofNat 8 (s.a.toNat % 16 * 16 + s.a.toNat / 16)) } s .xcn)

/-- PUSH and POP (R120 to R127): no flag but POP PSW, which sets all eight; the bits of the PSW byte as in 10_state.md R18. -/
def Obligations.StackInstructions : Prop :=
  ∀ s : State,
    exec .pushA s = .next (State.ended (s.push s.a) s .pushA) ∧
      exec .pushX s = .next (State.ended (s.push s.x) s .pushX) ∧
      exec .pushY s = .next (State.ended (s.push s.y) s .pushY) ∧
      exec .pushPsw s = .next (State.ended (s.push (BitVec.ofNat 8
        (128 * s.psw.n.toNat + 64 * s.psw.v.toNat + 32 * s.psw.p.toNat + 16 * s.psw.b.toNat +
          8 * s.psw.h.toNat + 4 * s.psw.i.toNat + 2 * s.psw.z.toNat + s.psw.c.toNat))) s .pushPsw) ∧
      exec .popA s = .next (State.ended
        { s with sp := s.sp + 1, a := s.ram.read (stackAddr (s.sp + 1)) } s .popA) ∧
      exec .popX s = .next (State.ended
        { s with sp := s.sp + 1, x := s.ram.read (stackAddr (s.sp + 1)) } s .popX) ∧
      exec .popY s = .next (State.ended
        { s with sp := s.sp + 1, y := s.ram.read (stackAddr (s.sp + 1)) } s .popY) ∧
      exec .popPsw s = .next (State.ended
        { s with
          sp := s.sp + 1
          psw :=
            { n := (s.ram.read (stackAddr (s.sp + 1))).getLsbD 7, v := (s.ram.read (stackAddr (s.sp + 1))).getLsbD 6,
              p := (s.ram.read (stackAddr (s.sp + 1))).getLsbD 5, b := (s.ram.read (stackAddr (s.sp + 1))).getLsbD 4,
              h := (s.ram.read (stackAddr (s.sp + 1))).getLsbD 3, i := (s.ram.read (stackAddr (s.sp + 1))).getLsbD 2,
              z := (s.ram.read (stackAddr (s.sp + 1))).getLsbD 1, c := (s.ram.read (stackAddr (s.sp + 1))).getLsbD 0 } }
        s .popPsw)

/-- OR, AND, EOR, ADC and SBC with destination A: result on naturals, V as signed overflow, H a draw after ADC and V after SBC
(41_alu8.md R128 to R130, R134 and on). -/
def Obligations.AluOnA : Prop :=
  ∀ (i : Instr) (op : AluOp) (o : Src) (s : State), i.accForm = some (op, o) →
    exec i s = .next (State.ended
      { o.after s with
        a := op.value s.a (o.value s) s.psw.c
        psw := op.flags s.a (o.value s) s.psw (Config.freeBit s.draws)
        draws := s.draws + op.draws } s i)

/-- OR, AND, EOR, ADC and SBC with a memory destination: source read first, then destination, the result written to it, A not
touched (R132, R143 to R145 and the like). -/
def Obligations.AluOnMemory : Prop :=
  ∀ (i : Instr) (op : AluOp) (l : Loc) (o : Src) (s : State), i.memForm = some (op, l, o) →
    exec i s = .next (State.ended
      (State.memWrite
        { l.after (o.after s) with
          psw := op.flags (l.value (o.after s)) (o.value s) s.psw (Config.freeBit s.draws)
          draws := s.draws + op.draws }
        (l.addr (o.after s)) (op.value (l.value (o.after s)) (o.value s) s.psw.c)) s i)

/-- CMP of a register or of a memory byte: N, Z and C, nothing stored; of two memory operands the source is read first, then the
destination, an order that is the spec's decision D14 (R131, R132, R170 to R181, R206 to R211). -/
def Obligations.Compares : Prop :=
  ∀ (i : Instr) (s : State),
    (∀ (r : Reg) (o : Src), i.compareForm = some (r, o) →
      exec i s = .next (State.ended { o.after s with psw := s.psw.compare (s.reg r) (o.value s) } s i)) ∧
    (∀ (l : Loc) (o : Src), i.compareMemForm = some (l, o) →
      exec i s = .next (State.ended
        { l.after (o.after s) with psw := s.psw.compare (l.value (o.after s)) (o.value s) } s i))

/-- ADDW, SUBW and CMPW on naturals: no carry in, V as signed 16-bit overflow, H a draw after ADDW and SUBW; CMPW stores nothing
(42_arith16.md R213, R214, R217). -/
def Obligations.WordArithmetic : Prop :=
  ∀ (s : State) (d : Byte),
    exec (.addw d) s = .next (State.ended
      { s.touchDpWord d with
        a := BitVec.ofNat 8 (s.ya.toNat + (s.dpWord d).toNat)
        y := BitVec.ofNat 8 ((s.ya.toNat + (s.dpWord d).toNat) / 256)
        draws := s.draws + 1
        psw := { s.psw.nz16 (s.ya + s.dpWord d) with
          c := decide (s.ya.toNat + (s.dpWord d).toNat > 65535)
          v := overflows 16 (s.ya.toInt + (s.dpWord d).toInt)
          h := Config.freeBit s.draws } } s (.addw d)) ∧
    exec (.subw d) s = .next (State.ended
      { s.touchDpWord d with
        a := BitVec.ofNat 8 (s.ya.toNat + 65536 - (s.dpWord d).toNat)
        y := BitVec.ofNat 8 ((s.ya.toNat + 65536 - (s.dpWord d).toNat) / 256)
        draws := s.draws + 1
        psw := { s.psw.nz16 (s.ya - s.dpWord d) with
          c := decide (s.ya.toNat ≥ (s.dpWord d).toNat)
          v := overflows 16 (s.ya.toInt - (s.dpWord d).toInt)
          h := Config.freeBit s.draws } } s (.subw d)) ∧
    (s.params.extOpcodes = true → exec (.cmpw d) s = .next (State.ended
      { s.touchDpWord d with
        psw := { s.psw.nz16 (s.ya - s.dpWord d) with c := decide (s.ya.toNat ≥ (s.dpWord d).toNat) } } s (.cmpw d)))

/-- MUL: the exact product, N and Z from the new Y; DIV: with Y below X the exact quotient and remainder, N and Z from A; with Y
at or above X (X = 0 among them) A, Y, N and Z are draws; V and H are draws always (R215, R216). -/
def Obligations.MultiplyDivide : Prop :=
  ∀ s : State,
    exec .mul s = .next (State.ended
      { s with
        a := BitVec.ofNat 8 (s.y.toNat * s.a.toNat % 256)
        y := BitVec.ofNat 8 (s.y.toNat * s.a.toNat / 256)
        psw := s.psw.nz8 (BitVec.ofNat 8 (s.y.toNat * s.a.toNat / 256)) } s .mul) ∧
    (s.y.toNat < s.x.toNat → exec .div s = .next (State.ended
      { s with
        a := BitVec.ofNat 8 ((s.y.toNat * 256 + s.a.toNat) / s.x.toNat)
        y := BitVec.ofNat 8 ((s.y.toNat * 256 + s.a.toNat) % s.x.toNat)
        draws := s.draws + 2
        psw := { s.psw.nz8 (BitVec.ofNat 8 ((s.y.toNat * 256 + s.a.toNat) / s.x.toNat)) with
          v := Config.freeBit s.draws, h := Config.freeBit (s.draws + 1) } } s .div)) ∧
    (s.x.toNat ≤ s.y.toNat → exec .div s = .next (State.ended
      { s with
        a := Config.freeByte (s.draws + 2)
        y := Config.freeByte (s.draws + 3)
        draws := s.draws + 6
        psw := { s.psw with
          v := Config.freeBit s.draws, h := Config.freeBit (s.draws + 1),
          n := Config.freeBit (s.draws + 4), z := Config.freeBit (s.draws + 5) } } s .div))

/-- ASL, LSR, ROL and ROR of A and of memory: C the bit shifted out, N and Z from the result (43_shift_rotate.md R218 to R234). -/
def Obligations.Shifts : Prop :=
  ∀ (i : Instr) (op : ShiftOp) (s : State),
    exec op.onA s = .next (State.ended
      { s with a := op.value s.a s.psw.c, psw := op.flags s.a s.psw } s op.onA) ∧
    (∀ l : Loc, i.shiftMemForm = some (op, l) →
      exec i s = .next (State.ended
        (State.memWrite { l.after s with psw := op.flags (l.value s) s.psw }
          (l.addr s) (op.value (l.value s) s.psw.c)) s i))

/-- SET1, CLR1, TSET1, TCLR1, MOV1 m.b,C and NOT1: one read and one write of the byte; TSET1 and TCLR1 set N and Z from A - m
(44_bit_ops.md R236, R237, R240, R241, R248, R249). -/
def Obligations.BitChanges : Prop :=
  ∀ (s : State) (b : BitVec 3) (d : Byte) (a : Addr),
    exec (.set1 b d) s = .next (State.ended
      ((s.touch (s.dp d)).memWrite (s.dp d) (s.peek (s.dp d) ||| (1#8 <<< b.toNat))) s (.set1 b d)) ∧
    exec (.clr1 b d) s = .next (State.ended
      ((s.touch (s.dp d)).memWrite (s.dp d) (s.peek (s.dp d) &&& ~~~(1#8 <<< b.toNat))) s (.clr1 b d)) ∧
    exec (.tset1 a) s = .next (State.ended
      (State.memWrite { s.touch a with psw := s.psw.nz8 (s.a - s.peek a) } a (s.peek a ||| s.a)) s (.tset1 a)) ∧
    exec (.tclr1 a) s = .next (State.ended
      (State.memWrite { s.touch a with psw := s.psw.nz8 (s.a - s.peek a) } a (s.peek a &&& ~~~s.a)) s (.tclr1 a)) ∧
    (s.params.extOpcodes = true →
      exec (.mov1MemC a b) s = .next (State.ended
        ((s.touch a).memWrite a (if s.psw.c then s.peek a ||| (1#8 <<< b.toNat) else s.peek a &&& ~~~(1#8 <<< b.toNat)))
        s (.mov1MemC a b)) ∧
      exec (.not1 a b) s = .next (State.ended
        ((s.touch a).memWrite a (s.peek a ^^^ (1#8 <<< b.toNat))) s (.not1 a b)))

/-- BBS, BBC, DBNZ and CBNE: the test, the target, the cost of the outcome, no flag (R238, R239; 46_control_flow.md R265 to
R268). -/
def Obligations.TestAndBranch : Prop :=
  ∀ (s : State) (b : BitVec 3) (d r : Byte),
    exec (.bbs b d r) s = .next (State.branched (s.touch (s.dp d)) s (.bbs b d r)
      ((s.peek (s.dp d)).getLsbD b.toNat) r) ∧
    exec (.bbc b d r) s = .next (State.branched (s.touch (s.dp d)) s (.bbc b d r)
      (!(s.peek (s.dp d)).getLsbD b.toNat) r) ∧
    exec (.dbnzY r) s = .next (State.branched { s with y := s.y - 1 } s (.dbnzY r) (decide (s.y ≠ 1)) r) ∧
    exec (.dbnzDp d r) s = .next (State.branched
      ((s.touch (s.dp d)).memWrite (s.dp d) (s.peek (s.dp d) - 1)) s (.dbnzDp d r) (decide (s.peek (s.dp d) ≠ 1)) r) ∧
    exec (.cbneDp d r) s = .next (State.branched (s.touch (s.dp d)) s (.cbneDp d r)
      (decide (s.a ≠ s.peek (s.dp d))) r) ∧
    exec (.cbneDpX d r) s = .next (State.branched (s.touch (s.dp (d + s.x))) s (.cbneDpX d r)
      (decide (s.a ≠ s.peek (s.dp (d + s.x)))) r)

/-- OR1, AND1, EOR1 and MOV1 C,m.b with EXT_OPCODES true: C only (R242 to R247). -/
def Obligations.CarryBits : Prop :=
  ∀ (s : State) (m : Addr) (b : BitVec 3), s.params.extOpcodes = true →
    exec (.or1 m b) s = .next (State.ended
      { s.touch m with psw := { s.psw with c := s.psw.c || (s.peek m).getLsbD b.toNat } } s (.or1 m b)) ∧
    exec (.or1Not m b) s = .next (State.ended
      { s.touch m with psw := { s.psw with c := s.psw.c || !(s.peek m).getLsbD b.toNat } } s (.or1Not m b)) ∧
    exec (.and1 m b) s = .next (State.ended
      { s.touch m with psw := { s.psw with c := s.psw.c && (s.peek m).getLsbD b.toNat } } s (.and1 m b)) ∧
    exec (.and1Not m b) s = .next (State.ended
      { s.touch m with psw := { s.psw with c := s.psw.c && !(s.peek m).getLsbD b.toNat } } s (.and1Not m b)) ∧
    exec (.eor1 m b) s = .next (State.ended
      { s.touch m with psw := { s.psw with c := s.psw.c ^^ (s.peek m).getLsbD b.toNat } } s (.eor1 m b)) ∧
    exec (.mov1CMem m b) s = .next (State.ended
      { s.touch m with psw := { s.psw with c := (s.peek m).getLsbD b.toNat } } s (.mov1CMem m b))

/-- The eight conditional branches and BRA: pc and cycle, nothing else (45_branches.md R250 to R259). BRA is charged
COST(0x2F, not taken) whatever the COST table: it has no condition (91_not_in_source.md N19, the model's reading of COST in
log 7). -/
def Obligations.Branches : Prop :=
  ∀ (i : Instr) (s : State),
    (∀ (c : Cond) (r : Byte), i.condForm = some (c, r) → exec i s = .next (State.branched s s i (c.holds s.psw) r)) ∧
    (∀ r : Byte, exec (.bra r) s = .next
      (State.jumped s s (.bra r) (s.pc + 2 + BitVec.ofInt 16 r.toInt)))

/-- CALL, RET, JMP, and with EXT_OPCODES true TCALL and PCALL: the return address pushed high byte first, popped low byte first;
the jump through a table; the vectors (46_control_flow.md R261 to R264, R269, R270). -/
def Obligations.CallsAndJumps : Prop :=
  ∀ (s : State) (a : Addr) (n : BitVec 4) (u : Byte),
    exec (.call a) s = .next (State.jumped
      ((s.push (hiByte (s.pc + 3))).push (loByte (s.pc + 3))) s (.call a) a) ∧
    exec .ret s = .next (State.jumped { s with sp := s.sp + 2 } s .ret
      (wordOf (s.ram.read (stackAddr (s.sp + 2))) (s.ram.read (stackAddr (s.sp + 1))))) ∧
    exec (.jmpAbs a) s = .next (State.jumped s s (.jmpAbs a) a) ∧
    exec (.jmpIdxInd a) s = .next (State.jumped
      ((s.touch (a + s.x.setWidth 16)).touch (a + s.x.setWidth 16 + 1)) s (.jmpIdxInd a)
      (wordOf ((s.touch (a + s.x.setWidth 16)).peek (a + s.x.setWidth 16 + 1)) (s.peek (a + s.x.setWidth 16)))) ∧
    (s.params.extOpcodes = true →
      exec (.tcall n) s = .next (State.jumped
        ((s.push (hiByte (s.pc + 1))).push (loByte (s.pc + 1))) s (.tcall n)
        (wordOf (s.ram.read (BitVec.ofNat 16 (0xFFDF - 2 * n.toNat))) (s.ram.read (BitVec.ofNat 16 (0xFFDE - 2 * n.toNat))))) ∧
      exec (.pcall u) s = .next (State.jumped
        ((s.push (hiByte (s.pc + 2))).push (loByte (s.pc + 2))) s (.pcall u) (BitVec.ofNat 16 (0xFF00 + u.toNat))))

/-- BRK: the address after it pushed high then low, PSW pushed as it was, B set, I cleared, the pc from the vector at 0xFFDE;
RETI with EXT_OPCODES true: PSW, then the pc, popped (47_flags_misc.md R284; 46_control_flow.md R271). -/
def Obligations.BreakAndReturn : Prop :=
  ∀ s : State,
    exec .brk s = .next (State.jumped
      { ((s.push (hiByte (s.pc + 1))).push (loByte (s.pc + 1))).push s.psw.toByte with
        psw := { s.psw with b := true, i := false } } s .brk
      (wordOf (s.ram.read 0xFFDF#16) (s.ram.read 0xFFDE#16))) ∧
    (s.params.extOpcodes = true → exec .reti s = .next (State.jumped
      { s with sp := s.sp + 3, psw := Psw.ofByte (s.ram.read (stackAddr (s.sp + 1))) } s .reti
      (wordOf (s.ram.read (stackAddr (s.sp + 3))) (s.ram.read (stackAddr (s.sp + 2))))))

/-- The flag instructions, NOP, SLEEP and STOP: one flag each (CLRV also draws H), nothing, or the run state (47_flags_misc.md
R273 to R283). -/
def Obligations.FlagsAndHalts : Prop :=
  ∀ s : State,
    exec .clrp s = .next (State.ended { s with psw := { s.psw with p := false } } s .clrp) ∧
      exec .setp s = .next (State.ended { s with psw := { s.psw with p := true } } s .setp) ∧
      exec .clrc s = .next (State.ended { s with psw := { s.psw with c := false } } s .clrc) ∧
      exec .setc s = .next (State.ended { s with psw := { s.psw with c := true } } s .setc) ∧
      exec .notc s = .next (State.ended { s with psw := { s.psw with c := !s.psw.c } } s .notc) ∧
      exec .clrv s = .next (State.ended
        { s with psw := { s.psw with v := false, h := Config.freeBit s.draws }, draws := s.draws + 1 } s .clrv) ∧
      exec .ei s = .next (State.ended { s with psw := { s.psw with i := true } } s .ei) ∧
      exec .di s = .next (State.ended { s with psw := { s.psw with i := false } } s .di) ∧
      exec .nop s = .next (State.ended s s .nop) ∧
      exec .sleep s = .next (State.ended { s with run := .halted } s .sleep) ∧
      exec .stop s = .next (State.ended { s with run := .halted } s .stop)

/-- DAA and DAS with EXT_OPCODES true, line by line on naturals (47_flags_misc.md R285, R286). -/
def Obligations.DecimalAdjust : Prop :=
  ∀ s : State, s.params.extOpcodes = true →
    (∃ (a1 a2 : Byte) (c1 : Bool),
      (if s.psw.c = true ∨ s.a.toNat > 0x99 then a1.toNat = (s.a.toNat + 0x60) % 256 ∧ c1 = true
        else a1 = s.a ∧ c1 = s.psw.c) ∧
      (if s.psw.h = true ∨ a1.toNat % 16 > 9 then a2.toNat = (a1.toNat + 6) % 256 else a2 = a1) ∧
      exec .daa s = .next (State.ended { s with a := a2, psw := { s.psw.nz8 a2 with c := c1 } } s .daa)) ∧
    (∃ (a1 a2 : Byte) (c1 : Bool),
      (if s.psw.c = false ∨ s.a.toNat > 0x99 then a1.toNat = (s.a.toNat + 256 - 0x60) % 256 ∧ c1 = false
        else a1 = s.a ∧ c1 = s.psw.c) ∧
      (if s.psw.h = false ∨ a1.toNat % 16 > 9 then a2.toNat = (a1.toNat + 256 - 6) % 256 else a2 = a1) ∧
      exec .das s = .next (State.ended { s with a := a2, psw := { s.psw.nz8 a2 with c := c1 } } s .das))

/-- INC and DEC of a register and of memory, INCW and DECW: the result wraps, N and Z from it, no carry (48_inc_dec.md R287 to
R301). -/
def Obligations.IncrementDecrement : Prop :=
  ∀ (i : Instr) (s : State),
    (∀ (up : Bool) (r : Reg), i.stepRegForm = some (up, r) →
      exec i s = .next (State.ended
        { s.setReg r (if up then s.reg r + 1 else s.reg r - 1) with
          psw := s.psw.nz8 (if up then s.reg r + 1 else s.reg r - 1) } s i)) ∧
    (∀ (up : Bool) (l : Loc), i.stepMemForm = some (up, l) →
      exec i s = .next (State.ended
        { (l.after s).memWrite (l.addr s) (if up then l.value s + 1 else l.value s - 1) with
          psw := s.psw.nz8 (if up then l.value s + 1 else l.value s - 1) } s i)) ∧
    (∀ d : Byte,
      exec (.incw d) s = .next (State.ended
        { ((s.touchDpWord d).memWrite (s.dp d) (loByte (s.dpWord d + 1))).memWrite (s.dphi d) (hiByte (s.dpWord d + 1)) with
          psw := s.psw.nz16 (s.dpWord d + 1) } s (.incw d)) ∧
      exec (.decw d) s = .next (State.ended
        { ((s.touchDpWord d).memWrite (s.dp d) (loByte (s.dpWord d - 1))).memWrite (s.dphi d) (hiByte (s.dpWord d - 1)) with
          psw := s.psw.nz16 (s.dpWord d - 1) } s (.decw d)))

/-! ### Timers (60_exceptions.md R315 to R320) -/

/-- Reading a counter returns it and clears it, a second read returns 0, the rest of the timer stays, a write does nothing
(R319); a write to Control with bit `j` 0 zeroes every field of timer `j`, and its counter then reads 0 (R317). -/
def Obligations.TimerRegisters : Prop :=
  ∀ (s : State) (j : Fin 3) (v : Byte),
    (s.peek (0x00FD#16 + BitVec.ofNat 16 j.val)).toNat = (s.timers.get j).counter.toNat ∧
      (s.touch (0x00FD#16 + BitVec.ofNat 16 j.val)).timers.get j = { s.timers.get j with counter := 0 } ∧
      (s.touch (0x00FD#16 + BitVec.ofNat 16 j.val)).peek (0x00FD#16 + BitVec.ofNat 16 j.val) = 0 ∧
      s.memWrite (0x00FD#16 + BitVec.ofNat 16 j.val) v = s ∧
      (v.getLsbD j.val = false →
        (s.memWrite 0x00F1#16 v).timers.get j =
          { enabled := false, nextTick := 0, pre := 0, counter := 0, divisor := 0 } ∧
        (s.memWrite 0x00F1#16 v).peek (0x00FD#16 + BitVec.ofNat 16 j.val) = 0)

/-- A timer after `n` ticks, each taken when it falls due. -/
def dueTicks (j : Fin 3) : Nat → Timer → Timer
  | 0, t => t
  | n + 1, t => dueTicks j n (t.tick j t.nextTick)

/-- The rate: an enabled timer with divisor `D` (0 meaning 256) counts 1 after exactly `D` ticks, with the pre-divider back at 0
and the next tick `D` periods on; a tick that is not due, and a tick of a disabled timer, change nothing (R318, R320). -/
def Obligations.TimerRate : Prop :=
  ∀ (j : Fin 3) (divisor : Byte) (cycle : Nat),
    (∀ n, n < (if divisor = 0 then 256 else divisor.toNat) →
      (dueTicks j n (Timer.enable j divisor cycle)).counter = 0 ∧
        (dueTicks j n (Timer.enable j divisor cycle)).pre.toNat = n) ∧
    dueTicks j (if divisor = 0 then 256 else divisor.toNat) (Timer.enable j divisor cycle) =
      { Timer.enable j divisor cycle with
        nextTick := cycle + ((if divisor = 0 then 256 else divisor.toNat) + 1) * period j, counter := 1 } ∧
    (∀ (t : Timer) (now : Nat), t.enabled = false ∨ now < t.nextTick → t.tick j now = t)

/-! ### The DSP (60_exceptions.md R323 to R339) -/

/-- `DspWrite` (R325): ENDX becomes 0 whatever is written; every other register stores the byte; KOFF and FLG with bit 7 put
voices into Release and change nothing else (R330); KON starts the voices whose bit is 1 as R329 says, every field of them: the
first block decoded from the directory's start address with `prev_brr` and `prev_interp` cleared before (decision D36); it leaves
the others; no other register touches a voice. -/
def Obligations.DspWrites : Prop :=
  ∀ (ram : Memory) (n : Nat) (k j : BitVec 7) (b : Byte) (d : Dsp) (v : Fin 8),
    (dspWrite ram n k b d).reg k = (if k = 0x7C#7 then 0 else b) ∧
      (j ≠ k → (dspWrite ram n k b d).reg j = d.reg j) ∧
      (k ≠ 0x4C#7 → k ≠ 0x5C#7 → k ≠ 0x6C#7 → (dspWrite ram n k b d).voice v = d.voice v) ∧
      (dspWrite ram n 0x5C#7 b d).voice v =
        (if b.getLsbD v.val then { d.voice v with phase := .release } else d.voice v) ∧
      (dspWrite ram n 0x6C#7 b d).voice v =
        (if b.getLsbD 7 then { d.voice v with phase := .release } else d.voice v) ∧
      (b.getLsbD v.val = false → (dspWrite ram n 0x4C#7 b d).voice v = d.voice v) ∧
      (b.getLsbD v.val = true →
        ((dspWrite ram n 0x4C#7 b d).voice v).enabled = true ∧
          ((dspWrite ram n 0x4C#7 b d).voice v).curAddr = dirStart ram (d.reg 0x5D#7) (d.reg (voiceReg v 4)) ∧
          ((dspWrite ram n 0x4C#7 b d).voice v).prevInterp = #v[0, 0, 0] ∧
          ((dspWrite ram n 0x4C#7 b d).voice v).blk = (decodeBlock ram (d.startedVoice ram v)).blk ∧
          ((dspWrite ram n 0x4C#7 b d).voice v).prevBrr = (decodeBlock ram (d.startedVoice ram v)).prevBrr ∧
          ((dspWrite ram n 0x4C#7 b d).voice v).pitchCounter = 0 ∧ ((dspWrite ram n 0x4C#7 b d).voice v).env = 0 ∧
          ((dspWrite ram n 0x4C#7 b d).voice v).phase = .attack ∧
          ((dspWrite ram n 0x4C#7 b d).voice v).nextCounter = n)

/-- A sample writes no DSP register but VxENVX, VxOUTX and ENDX, and leaves a voice that is not enabled, with its two registers,
as it was (R331, R339). -/
def Obligations.DspSampleFrame : Prop :=
  ∀ (T : DspTables) (ram : Memory) (n : Nat) (d : Dsp),
    (∀ k : BitVec 7, k ≠ 0x7C#7 → (∀ v : Fin 8, k ≠ voiceReg v 8 ∧ k ≠ voiceReg v 9) →
      (dspSample T ram n d).1.reg k = d.reg k) ∧
    (∀ v : Fin 8, (d.voice v).enabled = false →
      (dspSample T ram n d).1.voice v = d.voice v ∧
        (dspSample T ram n d).1.reg (voiceReg v 8) = d.reg (voiceReg v 8) ∧
        (dspSample T ram n d).1.reg (voiceReg v 9) = d.reg (voiceReg v 9))

/-- "The decode is a function of the nine bytes and `prev_brr` alone" (R328). -/
def Obligations.BlockDecodeLocal : Prop :=
  ∀ (ram ram' : Memory) (x y : Voice), x.curAddr = y.curAddr → x.prevBrr = y.prevBrr →
    (∀ j : Nat, j ≤ 8 → ram.read (x.curAddr + BitVec.ofNat 16 j) = ram'.read (x.curAddr + BitVec.ofNat 16 j)) →
    (decodeBlock ram x).blk = (decodeBlock ram' y).blk ∧ (decodeBlock ram x).prevBrr = (decodeBlock ram' y).prevBrr

/-- The pitch is `(VxPITCHH & 0x3F) * 256 + VxPITCHL`, at most 0x3FFF, read from the registers; pitch 0 leaves the voice where it
is (R333). -/
def Obligations.Pitch : Prop :=
  ∀ (d : Dsp) (v : Fin 8) (ram : Memory),
    d.pitch v = (d.reg (voiceReg v 3)).toNat % 64 * 256 + (d.reg (voiceReg v 2)).toNat ∧ d.pitch v ≤ 0x3FFF ∧
      (d.pitch v = 0 → (d.voice v).pitchCounter < 0x10000 → pitchStep ram v d = d)

/-- `Mix` (R338): each accumulator times the signed master volume, shifted, clamped to 16 bits; FLG bit 6 zeroes both; with no
voice enabled the pair is (0, 0) whatever the volumes. -/
def Obligations.MixOutput : Prop :=
  ∀ (T : DspTables) (ram : Memory) (n : Nat) (d : Dsp) (l r : Int),
    ((d.reg 0x6C#7).getLsbD 6 = false →
      (mixSample d l r).left.toInt = max (-32768) (min 32767 (l * (d.reg 0x0C#7).toInt / 128)) ∧
        (mixSample d l r).right.toInt = max (-32768) (min 32767 (r * (d.reg 0x1C#7).toInt / 128))) ∧
    ((d.reg 0x6C#7).getLsbD 6 = true → mixSample d l r = { left := 0, right := 0 }) ∧
    ((∀ v : Fin 8, (d.voice v).enabled = false) → dspSample T ram n d = (d, { left := 0, right := 0 }))

/-- The envelope steps of a voice, one per sample from sample `n` on, with fixed registers. -/
def envSteps (T : DspTables) (adsr1 adsr2 gain : Byte) : Nat → Nat → Voice → Voice
  | 0, _, x => x
  | k + 1, n, x => envSteps T adsr1 adsr2 gain k (n + 1) (envStep T n adsr1 adsr2 gain x)

/-- Release ends: a voice in Release loses 8 a sample in either mode whatever the tables, and within 256 samples its envelope is
0 and it is no longer enabled (R330, R336). -/
def Obligations.ReleaseEnds : Prop :=
  ∀ (T : DspTables) (adsr1 adsr2 gain : Byte) (n : Nat) (x : Voice), x.phase = .release → x.Ok →
    (envStep T n adsr1 adsr2 gain x).env = max (x.env - 8) 0 ∧
      (envSteps T adsr1 adsr2 gain 256 n x).env = 0 ∧ (envSteps T adsr1 adsr2 gain 256 n x).enabled = false

/-- Attack, Decay, Sustain and the GAIN modes (R336): a step of the envelope of a voice that is not in Release, with the fields of
its registers on naturals. In ADSR mode and in the four time-varying GAIN modes nothing happens before `next_counter`; a due step
changes the envelope, the phase and `next_counter` and nothing else; direct GAIN sets the envelope at every sample. That a step is
due from `next_counter` on, that the registers are read when they are used and the numbers of the four modes are the spec's
decisions D37, D38 and D40. -/
def Obligations.EnvelopeSteps : Prop :=
  ∀ (T : DspTables) (n : Nat) (adsr1 adsr2 gain : Byte) (x : Voice), x.phase ≠ .release →
    (adsr1.getLsbD 7 = true →
      (n < x.nextCounter → envStep T n adsr1 adsr2 gain x = x) ∧
      (x.nextCounter ≤ n →
        (x.phase = .attack → envStep T n adsr1 adsr2 gain x =
          { x with
            env := min 2047 (x.env + if adsr1.toNat % 16 = 15 then 1024 else 32)
            phase := if 2047 ≤ x.env + (if adsr1.toNat % 16 = 15 then 1024 else 32) then .decay else .attack
            nextCounter := n + T.attackRate (BitVec.ofNat 4 (adsr1.toNat % 16)) }) ∧
        (x.phase = .decay → envStep T n adsr1 adsr2 gain x =
          { x with
            env := x.env - ((x.env - 1) / 256 + 1)
            phase := if x.env - ((x.env - 1) / 256 + 1) ≤ 256 * (adsr2.toNat / 32 + 1 : Nat) then .sustain else .decay
            nextCounter :=
              n + T.decayRate (BitVec.ofNat 3 (adsr1.toNat / 16 % 8)) (BitVec.ofNat 3 (adsr2.toNat / 32)) }) ∧
        (x.phase = .sustain → adsr2.toNat % 32 = 0 → envStep T n adsr1 adsr2 gain x = x) ∧
        (x.phase = .sustain → 0 < adsr2.toNat % 32 → envStep T n adsr1 adsr2 gain x =
          { x with
            env := x.env - ((x.env - 1) / 256 + 1)
            nextCounter :=
              n + T.sustainRate (BitVec.ofNat 5 (adsr2.toNat % 32)) (BitVec.ofNat 3 (adsr2.toNat / 32)) }))) ∧
    (adsr1.getLsbD 7 = false →
      (gain.getLsbD 7 = false → envStep T n adsr1 adsr2 gain x = { x with env := (gain.toNat * 16 : Nat) }) ∧
      (gain.getLsbD 7 = true → n < x.nextCounter → envStep T n adsr1 adsr2 gain x = x) ∧
      (gain.getLsbD 7 = true → x.nextCounter ≤ n →
        (gain.toNat / 32 % 4 = 0 → envStep T n adsr1 adsr2 gain x =
          { x with
            env := max 0 (min 2047 (x.env - 32))
            nextCounter := n + T.gainLinear (BitVec.ofNat 5 (gain.toNat % 32)) }) ∧
        (gain.toNat / 32 % 4 = 1 → envStep T n adsr1 adsr2 gain x =
          { x with
            env := max 0 (min 2047 (x.env - ((x.env - 1) / 256 + 1)))
            nextCounter := n + T.sustainRate (BitVec.ofNat 5 (gain.toNat % 32)) 7 }) ∧
        (gain.toNat / 32 % 4 = 2 → envStep T n adsr1 adsr2 gain x =
          { x with
            env := max 0 (min 2047 (x.env + 32))
            nextCounter := n + T.gainLinear (BitVec.ofNat 5 (gain.toNat % 32)) }) ∧
        (gain.toNat / 32 % 4 = 3 → envStep T n adsr1 adsr2 gain x =
          { x with
            env := max 0 (min 2047 (x.env + if x.env > 1536 then 8 else 32))
            nextCounter := n + T.gainBent (BitVec.ofNat 5 (gain.toNat % 32)) })))
end

