-- ==== Sys2Proof/Laws/Dsp.lean ====
section
/-! SUPPORT. The register file and the voices of the DSP: what a read gives after a write. -/

namespace Sys2Proof.Machine

@[simp] theorem Dsp.reg_setReg_same (d : Dsp) (k : BitVec 7) (v : Byte) : (d.setReg k v).reg k = v := by
  simp [Dsp.reg, Dsp.setReg, Vector.get_eq_getElem]

theorem Dsp.reg_setReg_other (d : Dsp) {j k : BitVec 7} (h : j ≠ k) (v : Byte) : (d.setReg k v).reg j = d.reg j := by
  have hn : k.toNat ≠ j.toNat := fun e => h (BitVec.eq_of_toNat_eq e.symm)
  simp [Dsp.reg, Dsp.setReg, Vector.get_eq_getElem, hn]

@[simp] theorem Dsp.voice_setReg (d : Dsp) (k : BitVec 7) (b : Byte) (v : Fin 8) : (d.setReg k b).voice v = d.voice v := rfl

@[simp] theorem Dsp.reg_setVoice (d : Dsp) (v : Fin 8) (x : Voice) (k : BitVec 7) : (d.setVoice v x).reg k = d.reg k := rfl

@[simp] theorem Dsp.voice_setVoice_same (d : Dsp) (v : Fin 8) (x : Voice) : (d.setVoice v x).voice v = x := by
  simp [Dsp.voice, Dsp.setVoice, Vector.get_eq_getElem]

theorem Dsp.voice_setVoice_other (d : Dsp) {v w : Fin 8} (h : w ≠ v) (x : Voice) : (d.setVoice v x).voice w = d.voice w := by
  have hn : v.val ≠ w.val := fun e => h (Fin.ext e.symm)
  simp [Dsp.voice, Dsp.setVoice, Vector.get_eq_getElem, hn]

/-- The index of a voice register on naturals, `v * 16 + f` (10_state.md R25). -/
theorem voiceReg_toNat (v : Fin 8) (f : BitVec 4) : (voiceReg v f).toNat = v.val * 16 + f.toNat := by
  simp only [voiceReg, BitVec.toNat_append, BitVec.toNat_ofNat]
  rw [← Nat.shiftLeft_add_eq_or_of_lt f.isLt]
  omega

/-- Two voice registers are the same only for the same voice and the same field (R25). -/
theorem voiceReg_inj {v w : Fin 8} {f g : BitVec 4} (h : voiceReg v f = voiceReg w g) : v = w ∧ f = g := by
  have e := congrArg BitVec.toNat h
  rw [voiceReg_toNat, voiceReg_toNat] at e
  exact ⟨Fin.ext (by omega), BitVec.eq_of_toNat_eq (by omega)⟩

/-- The loop of a block's decoding changes the block and `prev_brr`, and nothing else of the voice (60_exceptions.md R328). -/
theorem foldl_brrStep_eq (ram : Memory) (ks : List (Fin 16)) (x : Voice) :
    ks.foldl (brrStep ram) x =
      { x with blk := (ks.foldl (brrStep ram) x).blk, prevBrr := (ks.foldl (brrStep ram) x).prevBrr } := by
  induction ks generalizing x with
  | nil => rfl
  | cons k ks ih =>
    simp only [List.foldl_cons]
    rw [ih]
    simp only [brrStep]

/-- A block's decoding changes the block, its header fields and `prev_brr`, and nothing else of the voice (R328). -/
theorem decodeBlock_eq (ram : Memory) (x : Voice) :
    decodeBlock ram x = { x with blk := (decodeBlock ram x).blk, prevBrr := (decodeBlock ram x).prevBrr } := by
  unfold decodeBlock
  rw [foldl_brrStep_eq]
  simp only [readHeader]

/-- A key-on decodes the first block on the started voice and then resets pitch and envelope (60_exceptions.md R329). -/
theorem keyOn_voice_same (ram : Memory) (n : Nat) (d : Dsp) (v : Fin 8) :
    (keyOn ram n d v).voice v =
      { decodeBlock ram (d.startedVoice ram v) with pitchCounter := 0, env := 0, phase := .attack, nextCounter := n } := by
  unfold keyOn
  rw [Dsp.voice_setVoice_same]
  rfl

/-- A key-on leaves the other voices (R329). -/
theorem keyOn_voice_other (ram : Memory) (n : Nat) (d : Dsp) {v w : Fin 8} (h : w ≠ v) :
    (keyOn ram n d v).voice w = d.voice w := by
  unfold keyOn
  exact Dsp.voice_setVoice_other _ h _

/-- A key-off changes the voice's phase (R330). -/
theorem keyOff_voice_same (d : Dsp) (v : Fin 8) : (keyOff d v).voice v = { d.voice v with phase := .release } :=
  Dsp.voice_setVoice_same _ _ _

/-- A key-off leaves the other voices (R330). -/
theorem keyOff_voice_other (d : Dsp) {v w : Fin 8} (h : w ≠ v) : (keyOff d v).voice w = d.voice w :=
  Dsp.voice_setVoice_other _ h _

/-- Neither writes a register (R339). -/
@[simp] theorem keyOn_regs (ram : Memory) (n : Nat) (d : Dsp) (v : Fin 8) : (keyOn ram n d v).regs = d.regs := rfl
@[simp] theorem keyOff_regs (d : Dsp) (v : Fin 8) : (keyOff d v).regs = d.regs := rfl

/-- `clamp` to the envelope's range, as a maximum and a minimum (00_scope.md R9). -/
theorem clamp_env_eq (e : Int) : clamp e 0 2047 = max 0 (min 2047 e) := by
  unfold clamp
  split_ifs <;> omega

end Sys2Proof.Machine
end

