-- ==== Sys2Proof/Laws/Memory.lean ====
section
/-! SUPPORT. The laws of raw RAM: a write keeps the canonical form, and what a read after a write gives. -/

namespace Sys2Proof.Machine

/-- The canonical form of a non-empty memory, as a proposition. -/
theorem Memory.wf_cons (k : Nat) (v : Byte) (m : Memory) :
    Memory.wf ((k, v) :: m) = true ↔
      k < 65536 ∧ v ≠ Memory.unlisted ∧ (∀ c ∈ m, k < c.1) ∧ Memory.wf m = true := by
  simp [Memory.wf, and_assoc]

/-- Every entry after a write is an entry from before, or the one written. -/
theorem Memory.mem_write {m : Memory} {a : Addr} {v : Byte} {c : Host.Cell} (h : c ∈ m.write a v) :
    c ∈ m ∨ c.1 = a.toNat := by
  induction m with
  | nil => grind [Memory.write]
  | cons e m ih =>
    obtain ⟨k, w⟩ := e
    simp only [Memory.write] at h
    split_ifs at h <;> simp_all <;> grind

/-- A write keeps the canonical form. -/
theorem Memory.wf_write {m : Memory} (hm : m.wf = true) (a : Addr) (v : Byte) : (m.write a v).wf = true := by
  induction m with
  | nil =>
    simp only [Memory.write]
    split_ifs with hv
    · rfl
    · simp [Memory.wf, hv, a.isLt]
  | cons e m ih =>
    obtain ⟨k, w⟩ := e
    obtain ⟨hk, hw, hlt, hrest⟩ := (Memory.wf_cons k w m).1 hm
    simp only [Memory.write]
    split_ifs with h1 h2 h3 h4
    · refine (Memory.wf_cons ..).2 ⟨hk, hw, fun c hc => ?_, ih hrest⟩
      rcases Memory.mem_write hc with hc | hc
      · exact hlt c hc
      · omega
    · exact hrest
    · exact (Memory.wf_cons ..).2 ⟨hk, h3, hlt, hrest⟩
    · exact hm
    · refine (Memory.wf_cons ..).2 ⟨a.isLt, h4, fun c hc => ?_, hm⟩
      rcases List.mem_cons.1 hc with rfl | hc
      · simp only; omega
      · have := hlt c hc; omega

/-- An address below every entry's reads as unlisted. -/
theorem Memory.read_of_lt {m : Memory} {a : Addr} (h : ∀ c ∈ m, a.toNat < c.1) : m.read a = Memory.unlisted := by
  induction m with
  | nil => rfl
  | cons e m ih =>
    have he := h e (by simp)
    rw [Memory.read, if_neg (by omega)]
    exact ih fun c hc => h c (by simp [hc])

/-- A read of the written address gives the byte written. -/
theorem Memory.read_write_same {m : Memory} (hm : m.wf = true) (a : Addr) (v : Byte) : (m.write a v).read a = v := by
  induction m with
  | nil =>
    simp only [Memory.write]
    split_ifs with hv <;> simp [Memory.read, hv]
  | cons e m ih =>
    obtain ⟨k, w⟩ := e
    obtain ⟨hk, hw, hlt, hrest⟩ := (Memory.wf_cons k w m).1 hm
    simp only [Memory.write]
    split_ifs with h1 h2 h3 h4
    · rw [Memory.read, if_neg (by omega)]
      exact ih hrest
    · rw [Memory.read_of_lt fun c hc => by have := hlt c hc; omega, h3]
    · simp [Memory.read, h2]
    · rw [h4, Memory.read, if_neg h2]
      exact Memory.read_of_lt fun c hc => by have := hlt c hc; omega
    · simp [Memory.read]

/-- A read of any other address gives what it gave. -/
theorem Memory.read_write_other (m : Memory) {a b : Addr} (h : b ≠ a) (v : Byte) : (m.write a v).read b = m.read b := by
  have hne : a.toNat ≠ b.toNat := fun e => h (BitVec.eq_of_toNat_eq e.symm)
  induction m with
  | nil =>
    simp only [Memory.write]
    split_ifs <;> simp [Memory.read, hne]
  | cons e m ih =>
    obtain ⟨k, w⟩ := e
    simp only [Memory.write]
    split_ifs with h1 h2 h3 h4
    · simp only [Memory.read, ih]
    · simp [Memory.read, h2, hne]
    · simp [Memory.read, h2, hne]
    · rfl
    · simp [Memory.read, hne]

end Sys2Proof.Machine
end

