-- ==== Sys2Proof/Laws/State.lean ====
section
/-! SUPPORT. What each update of the state changes and what it leaves, field by field, so that no proof unfolds a record update. -/

namespace Sys2Proof.Machine

/-! ### setNZ8: only N and Z -/

@[simp] theorem State.setNZ8_a (s : State) (v : Byte) : (s.setNZ8 v).a = s.a := rfl
@[simp] theorem State.setNZ8_x (s : State) (v : Byte) : (s.setNZ8 v).x = s.x := rfl
@[simp] theorem State.setNZ8_y (s : State) (v : Byte) : (s.setNZ8 v).y = s.y := rfl
@[simp] theorem State.setNZ8_sp (s : State) (v : Byte) : (s.setNZ8 v).sp = s.sp := rfl
@[simp] theorem State.setNZ8_pc (s : State) (v : Byte) : (s.setNZ8 v).pc = s.pc := rfl
@[simp] theorem State.setNZ8_run (s : State) (v : Byte) : (s.setNZ8 v).run = s.run := rfl
@[simp] theorem State.setNZ8_faultInfo (s : State) (v : Byte) : (s.setNZ8 v).faultInfo = s.faultInfo := rfl
@[simp] theorem State.setNZ8_ram (s : State) (v : Byte) : (s.setNZ8 v).ram = s.ram := rfl
@[simp] theorem State.setNZ8_dspAddr (s : State) (v : Byte) : (s.setNZ8 v).dspAddr = s.dspAddr := rfl
@[simp] theorem State.setNZ8_timers (s : State) (v : Byte) : (s.setNZ8 v).timers = s.timers := rfl
@[simp] theorem State.setNZ8_dsp (s : State) (v : Byte) : (s.setNZ8 v).dsp = s.dsp := rfl
@[simp] theorem State.setNZ8_cycle (s : State) (v : Byte) : (s.setNZ8 v).cycle = s.cycle := rfl
@[simp] theorem State.setNZ8_sampleCounter (s : State) (v : Byte) : (s.setNZ8 v).sampleCounter = s.sampleCounter := rfl
@[simp] theorem State.setNZ8_nextSampleCycle (s : State) (v : Byte) : (s.setNZ8 v).nextSampleCycle = s.nextSampleCycle := rfl
@[simp] theorem State.setNZ8_out (s : State) (v : Byte) : (s.setNZ8 v).out = s.out := rfl
@[simp] theorem State.setNZ8_draws (s : State) (v : Byte) : (s.setNZ8 v).draws = s.draws := rfl
@[simp] theorem State.setNZ8_params (s : State) (v : Byte) : (s.setNZ8 v).params = s.params := rfl
@[simp] theorem State.setNZ8_psw (s : State) (v : Byte) :
    (s.setNZ8 v).psw = { s.psw with n := v.msb, z := v == 0 } := rfl

/-! ### setNZ16: only N and Z -/

@[simp] theorem State.setNZ16_a (s : State) (v : Addr) : (s.setNZ16 v).a = s.a := rfl
@[simp] theorem State.setNZ16_x (s : State) (v : Addr) : (s.setNZ16 v).x = s.x := rfl
@[simp] theorem State.setNZ16_y (s : State) (v : Addr) : (s.setNZ16 v).y = s.y := rfl
@[simp] theorem State.setNZ16_sp (s : State) (v : Addr) : (s.setNZ16 v).sp = s.sp := rfl
@[simp] theorem State.setNZ16_pc (s : State) (v : Addr) : (s.setNZ16 v).pc = s.pc := rfl
@[simp] theorem State.setNZ16_run (s : State) (v : Addr) : (s.setNZ16 v).run = s.run := rfl
@[simp] theorem State.setNZ16_faultInfo (s : State) (v : Addr) : (s.setNZ16 v).faultInfo = s.faultInfo := rfl
@[simp] theorem State.setNZ16_ram (s : State) (v : Addr) : (s.setNZ16 v).ram = s.ram := rfl
@[simp] theorem State.setNZ16_dspAddr (s : State) (v : Addr) : (s.setNZ16 v).dspAddr = s.dspAddr := rfl
@[simp] theorem State.setNZ16_timers (s : State) (v : Addr) : (s.setNZ16 v).timers = s.timers := rfl
@[simp] theorem State.setNZ16_dsp (s : State) (v : Addr) : (s.setNZ16 v).dsp = s.dsp := rfl
@[simp] theorem State.setNZ16_cycle (s : State) (v : Addr) : (s.setNZ16 v).cycle = s.cycle := rfl
@[simp] theorem State.setNZ16_sampleCounter (s : State) (v : Addr) : (s.setNZ16 v).sampleCounter = s.sampleCounter := rfl
@[simp] theorem State.setNZ16_nextSampleCycle (s : State) (v : Addr) : (s.setNZ16 v).nextSampleCycle = s.nextSampleCycle := rfl
@[simp] theorem State.setNZ16_out (s : State) (v : Addr) : (s.setNZ16 v).out = s.out := rfl
@[simp] theorem State.setNZ16_draws (s : State) (v : Addr) : (s.setNZ16 v).draws = s.draws := rfl
@[simp] theorem State.setNZ16_params (s : State) (v : Addr) : (s.setNZ16 v).params = s.params := rfl
@[simp] theorem State.setNZ16_psw (s : State) (v : Addr) :
    (s.setNZ16 v).psw = { s.psw with n := v.msb, z := v == 0 } := rfl

/-! ### setYA: only Y and A -/

@[simp] theorem State.setYA_x (s : State) (w : Addr) : (s.setYA w).x = s.x := rfl
@[simp] theorem State.setYA_sp (s : State) (w : Addr) : (s.setYA w).sp = s.sp := rfl
@[simp] theorem State.setYA_pc (s : State) (w : Addr) : (s.setYA w).pc = s.pc := rfl
@[simp] theorem State.setYA_psw (s : State) (w : Addr) : (s.setYA w).psw = s.psw := rfl
@[simp] theorem State.setYA_run (s : State) (w : Addr) : (s.setYA w).run = s.run := rfl
@[simp] theorem State.setYA_faultInfo (s : State) (w : Addr) : (s.setYA w).faultInfo = s.faultInfo := rfl
@[simp] theorem State.setYA_ram (s : State) (w : Addr) : (s.setYA w).ram = s.ram := rfl
@[simp] theorem State.setYA_dspAddr (s : State) (w : Addr) : (s.setYA w).dspAddr = s.dspAddr := rfl
@[simp] theorem State.setYA_timers (s : State) (w : Addr) : (s.setYA w).timers = s.timers := rfl
@[simp] theorem State.setYA_dsp (s : State) (w : Addr) : (s.setYA w).dsp = s.dsp := rfl
@[simp] theorem State.setYA_cycle (s : State) (w : Addr) : (s.setYA w).cycle = s.cycle := rfl
@[simp] theorem State.setYA_sampleCounter (s : State) (w : Addr) : (s.setYA w).sampleCounter = s.sampleCounter := rfl
@[simp] theorem State.setYA_nextSampleCycle (s : State) (w : Addr) : (s.setYA w).nextSampleCycle = s.nextSampleCycle := rfl
@[simp] theorem State.setYA_out (s : State) (w : Addr) : (s.setYA w).out = s.out := rfl
@[simp] theorem State.setYA_draws (s : State) (w : Addr) : (s.setYA w).draws = s.draws := rfl
@[simp] theorem State.setYA_params (s : State) (w : Addr) : (s.setYA w).params = s.params := rfl
@[simp] theorem State.setYA_a (s : State) (w : Addr) : (s.setYA w).a = loByte w := rfl
@[simp] theorem State.setYA_y (s : State) (w : Addr) : (s.setYA w).y = hiByte w := rfl

/-! ### touch: only the timers -/

@[simp] theorem State.touch_a (s : State) (a : Addr) : (s.touch a).a = s.a := rfl
@[simp] theorem State.touch_x (s : State) (a : Addr) : (s.touch a).x = s.x := rfl
@[simp] theorem State.touch_y (s : State) (a : Addr) : (s.touch a).y = s.y := rfl
@[simp] theorem State.touch_sp (s : State) (a : Addr) : (s.touch a).sp = s.sp := rfl
@[simp] theorem State.touch_pc (s : State) (a : Addr) : (s.touch a).pc = s.pc := rfl
@[simp] theorem State.touch_psw (s : State) (a : Addr) : (s.touch a).psw = s.psw := rfl
@[simp] theorem State.touch_run (s : State) (a : Addr) : (s.touch a).run = s.run := rfl
@[simp] theorem State.touch_faultInfo (s : State) (a : Addr) : (s.touch a).faultInfo = s.faultInfo := rfl
@[simp] theorem State.touch_ram (s : State) (a : Addr) : (s.touch a).ram = s.ram := rfl
@[simp] theorem State.touch_dspAddr (s : State) (a : Addr) : (s.touch a).dspAddr = s.dspAddr := rfl
@[simp] theorem State.touch_dsp (s : State) (a : Addr) : (s.touch a).dsp = s.dsp := rfl
@[simp] theorem State.touch_cycle (s : State) (a : Addr) : (s.touch a).cycle = s.cycle := rfl
@[simp] theorem State.touch_sampleCounter (s : State) (a : Addr) : (s.touch a).sampleCounter = s.sampleCounter := rfl
@[simp] theorem State.touch_nextSampleCycle (s : State) (a : Addr) : (s.touch a).nextSampleCycle = s.nextSampleCycle := rfl
@[simp] theorem State.touch_out (s : State) (a : Addr) : (s.touch a).out = s.out := rfl
@[simp] theorem State.touch_draws (s : State) (a : Addr) : (s.touch a).draws = s.draws := rfl
@[simp] theorem State.touch_params (s : State) (a : Addr) : (s.touch a).params = s.params := rfl
@[simp] theorem State.touch_timers (s : State) (a : Addr) : (s.touch a).timers = clearCounter a s.timers := rfl

/-! ### goto: only pc and cycle -/

@[simp] theorem State.goto_a (s : State) (i : Instr) (k : Bool) (a : Addr) : (s.goto i k a).a = s.a := rfl
@[simp] theorem State.goto_x (s : State) (i : Instr) (k : Bool) (a : Addr) : (s.goto i k a).x = s.x := rfl
@[simp] theorem State.goto_y (s : State) (i : Instr) (k : Bool) (a : Addr) : (s.goto i k a).y = s.y := rfl
@[simp] theorem State.goto_sp (s : State) (i : Instr) (k : Bool) (a : Addr) : (s.goto i k a).sp = s.sp := rfl
@[simp] theorem State.goto_psw (s : State) (i : Instr) (k : Bool) (a : Addr) : (s.goto i k a).psw = s.psw := rfl
@[simp] theorem State.goto_run (s : State) (i : Instr) (k : Bool) (a : Addr) : (s.goto i k a).run = s.run := rfl
@[simp] theorem State.goto_faultInfo (s : State) (i : Instr) (k : Bool) (a : Addr) : (s.goto i k a).faultInfo = s.faultInfo := rfl
@[simp] theorem State.goto_ram (s : State) (i : Instr) (k : Bool) (a : Addr) : (s.goto i k a).ram = s.ram := rfl
@[simp] theorem State.goto_dspAddr (s : State) (i : Instr) (k : Bool) (a : Addr) : (s.goto i k a).dspAddr = s.dspAddr := rfl
@[simp] theorem State.goto_timers (s : State) (i : Instr) (k : Bool) (a : Addr) : (s.goto i k a).timers = s.timers := rfl
@[simp] theorem State.goto_dsp (s : State) (i : Instr) (k : Bool) (a : Addr) : (s.goto i k a).dsp = s.dsp := rfl
@[simp] theorem State.goto_sampleCounter (s : State) (i : Instr) (k : Bool) (a : Addr) : (s.goto i k a).sampleCounter = s.sampleCounter := rfl
@[simp] theorem State.goto_nextSampleCycle (s : State) (i : Instr) (k : Bool) (a : Addr) : (s.goto i k a).nextSampleCycle = s.nextSampleCycle := rfl
@[simp] theorem State.goto_out (s : State) (i : Instr) (k : Bool) (a : Addr) : (s.goto i k a).out = s.out := rfl
@[simp] theorem State.goto_draws (s : State) (i : Instr) (k : Bool) (a : Addr) : (s.goto i k a).draws = s.draws := rfl
@[simp] theorem State.goto_params (s : State) (i : Instr) (k : Bool) (a : Addr) : (s.goto i k a).params = s.params := rfl
@[simp] theorem State.goto_pc (s : State) (i : Instr) (k : Bool) (a : Addr) : (s.goto i k a).pc = a := rfl
@[simp] theorem State.goto_cycle (s : State) (i : Instr) (k : Bool) (a : Addr) :
    (s.goto i k a).cycle = s.cycle + s.params.cost i.opcode k := rfl

/-! ### advance: only pc and cycle -/

@[simp] theorem State.advance_a (s : State) (i : Instr) : (s.advance i).a = s.a := rfl
@[simp] theorem State.advance_x (s : State) (i : Instr) : (s.advance i).x = s.x := rfl
@[simp] theorem State.advance_y (s : State) (i : Instr) : (s.advance i).y = s.y := rfl
@[simp] theorem State.advance_sp (s : State) (i : Instr) : (s.advance i).sp = s.sp := rfl
@[simp] theorem State.advance_psw (s : State) (i : Instr) : (s.advance i).psw = s.psw := rfl
@[simp] theorem State.advance_run (s : State) (i : Instr) : (s.advance i).run = s.run := rfl
@[simp] theorem State.advance_faultInfo (s : State) (i : Instr) : (s.advance i).faultInfo = s.faultInfo := rfl
@[simp] theorem State.advance_ram (s : State) (i : Instr) : (s.advance i).ram = s.ram := rfl
@[simp] theorem State.advance_dspAddr (s : State) (i : Instr) : (s.advance i).dspAddr = s.dspAddr := rfl
@[simp] theorem State.advance_timers (s : State) (i : Instr) : (s.advance i).timers = s.timers := rfl
@[simp] theorem State.advance_dsp (s : State) (i : Instr) : (s.advance i).dsp = s.dsp := rfl
@[simp] theorem State.advance_sampleCounter (s : State) (i : Instr) : (s.advance i).sampleCounter = s.sampleCounter := rfl
@[simp] theorem State.advance_nextSampleCycle (s : State) (i : Instr) : (s.advance i).nextSampleCycle = s.nextSampleCycle := rfl
@[simp] theorem State.advance_out (s : State) (i : Instr) : (s.advance i).out = s.out := rfl
@[simp] theorem State.advance_draws (s : State) (i : Instr) : (s.advance i).draws = s.draws := rfl
@[simp] theorem State.advance_params (s : State) (i : Instr) : (s.advance i).params = s.params := rfl
@[simp] theorem State.advance_pc (s : State) (i : Instr) : (s.advance i).pc = s.nextPc i := rfl
@[simp] theorem State.advance_cycle (s : State) (i : Instr) :
    (s.advance i).cycle = s.cycle + s.params.cost i.opcode false := rfl

/-! ### branch: only pc and cycle -/

@[simp] theorem State.branch_a (s : State) (i : Instr) (k : Bool) (r : Byte) : (s.branch i k r).a = s.a := rfl
@[simp] theorem State.branch_x (s : State) (i : Instr) (k : Bool) (r : Byte) : (s.branch i k r).x = s.x := rfl
@[simp] theorem State.branch_y (s : State) (i : Instr) (k : Bool) (r : Byte) : (s.branch i k r).y = s.y := rfl
@[simp] theorem State.branch_sp (s : State) (i : Instr) (k : Bool) (r : Byte) : (s.branch i k r).sp = s.sp := rfl
@[simp] theorem State.branch_psw (s : State) (i : Instr) (k : Bool) (r : Byte) : (s.branch i k r).psw = s.psw := rfl
@[simp] theorem State.branch_run (s : State) (i : Instr) (k : Bool) (r : Byte) : (s.branch i k r).run = s.run := rfl
@[simp] theorem State.branch_faultInfo (s : State) (i : Instr) (k : Bool) (r : Byte) : (s.branch i k r).faultInfo = s.faultInfo := rfl
@[simp] theorem State.branch_ram (s : State) (i : Instr) (k : Bool) (r : Byte) : (s.branch i k r).ram = s.ram := rfl
@[simp] theorem State.branch_dspAddr (s : State) (i : Instr) (k : Bool) (r : Byte) : (s.branch i k r).dspAddr = s.dspAddr := rfl
@[simp] theorem State.branch_timers (s : State) (i : Instr) (k : Bool) (r : Byte) : (s.branch i k r).timers = s.timers := rfl
@[simp] theorem State.branch_dsp (s : State) (i : Instr) (k : Bool) (r : Byte) : (s.branch i k r).dsp = s.dsp := rfl
@[simp] theorem State.branch_sampleCounter (s : State) (i : Instr) (k : Bool) (r : Byte) : (s.branch i k r).sampleCounter = s.sampleCounter := rfl
@[simp] theorem State.branch_nextSampleCycle (s : State) (i : Instr) (k : Bool) (r : Byte) : (s.branch i k r).nextSampleCycle = s.nextSampleCycle := rfl
@[simp] theorem State.branch_out (s : State) (i : Instr) (k : Bool) (r : Byte) : (s.branch i k r).out = s.out := rfl
@[simp] theorem State.branch_draws (s : State) (i : Instr) (k : Bool) (r : Byte) : (s.branch i k r).draws = s.draws := rfl
@[simp] theorem State.branch_params (s : State) (i : Instr) (k : Bool) (r : Byte) : (s.branch i k r).params = s.params := rfl
@[simp] theorem State.branch_pc (s : State) (i : Instr) (k : Bool) (r : Byte) :
    (s.branch i k r).pc = if k then s.nextPc i + sext8 r else s.nextPc i := rfl
@[simp] theorem State.branch_cycle (s : State) (i : Instr) (k : Bool) (r : Byte) :
    (s.branch i k r).cycle = s.cycle + s.params.cost i.opcode k := rfl

/-! ### raiseUnknown: only the run state and fault_info -/

@[simp] theorem State.raiseUnknown_a (s : State) (op : Byte) : (s.raiseUnknown op).a = s.a := rfl
@[simp] theorem State.raiseUnknown_x (s : State) (op : Byte) : (s.raiseUnknown op).x = s.x := rfl
@[simp] theorem State.raiseUnknown_y (s : State) (op : Byte) : (s.raiseUnknown op).y = s.y := rfl
@[simp] theorem State.raiseUnknown_sp (s : State) (op : Byte) : (s.raiseUnknown op).sp = s.sp := rfl
@[simp] theorem State.raiseUnknown_pc (s : State) (op : Byte) : (s.raiseUnknown op).pc = s.pc := rfl
@[simp] theorem State.raiseUnknown_psw (s : State) (op : Byte) : (s.raiseUnknown op).psw = s.psw := rfl
@[simp] theorem State.raiseUnknown_ram (s : State) (op : Byte) : (s.raiseUnknown op).ram = s.ram := rfl
@[simp] theorem State.raiseUnknown_dspAddr (s : State) (op : Byte) : (s.raiseUnknown op).dspAddr = s.dspAddr := rfl
@[simp] theorem State.raiseUnknown_timers (s : State) (op : Byte) : (s.raiseUnknown op).timers = s.timers := rfl
@[simp] theorem State.raiseUnknown_dsp (s : State) (op : Byte) : (s.raiseUnknown op).dsp = s.dsp := rfl
@[simp] theorem State.raiseUnknown_cycle (s : State) (op : Byte) : (s.raiseUnknown op).cycle = s.cycle := rfl
@[simp] theorem State.raiseUnknown_sampleCounter (s : State) (op : Byte) : (s.raiseUnknown op).sampleCounter = s.sampleCounter := rfl
@[simp] theorem State.raiseUnknown_nextSampleCycle (s : State) (op : Byte) : (s.raiseUnknown op).nextSampleCycle = s.nextSampleCycle := rfl
@[simp] theorem State.raiseUnknown_out (s : State) (op : Byte) : (s.raiseUnknown op).out = s.out := rfl
@[simp] theorem State.raiseUnknown_draws (s : State) (op : Byte) : (s.raiseUnknown op).draws = s.draws := rfl
@[simp] theorem State.raiseUnknown_params (s : State) (op : Byte) : (s.raiseUnknown op).params = s.params := rfl
@[simp] theorem State.raiseUnknown_run (s : State) (op : Byte) : (s.raiseUnknown op).run = .faulted := rfl
@[simp] theorem State.raiseUnknown_faultInfo (s : State) (op : Byte) :
    (s.raiseUnknown op).faultInfo = some { op := op, pc := s.pc } := rfl

/-! ### halt: only the run state -/

@[simp] theorem State.halt_a (s : State) : (s.halt).a = s.a := rfl
@[simp] theorem State.halt_x (s : State) : (s.halt).x = s.x := rfl
@[simp] theorem State.halt_y (s : State) : (s.halt).y = s.y := rfl
@[simp] theorem State.halt_sp (s : State) : (s.halt).sp = s.sp := rfl
@[simp] theorem State.halt_pc (s : State) : (s.halt).pc = s.pc := rfl
@[simp] theorem State.halt_psw (s : State) : (s.halt).psw = s.psw := rfl
@[simp] theorem State.halt_faultInfo (s : State) : (s.halt).faultInfo = s.faultInfo := rfl
@[simp] theorem State.halt_ram (s : State) : (s.halt).ram = s.ram := rfl
@[simp] theorem State.halt_dspAddr (s : State) : (s.halt).dspAddr = s.dspAddr := rfl
@[simp] theorem State.halt_timers (s : State) : (s.halt).timers = s.timers := rfl
@[simp] theorem State.halt_dsp (s : State) : (s.halt).dsp = s.dsp := rfl
@[simp] theorem State.halt_cycle (s : State) : (s.halt).cycle = s.cycle := rfl
@[simp] theorem State.halt_sampleCounter (s : State) : (s.halt).sampleCounter = s.sampleCounter := rfl
@[simp] theorem State.halt_nextSampleCycle (s : State) : (s.halt).nextSampleCycle = s.nextSampleCycle := rfl
@[simp] theorem State.halt_out (s : State) : (s.halt).out = s.out := rfl
@[simp] theorem State.halt_draws (s : State) : (s.halt).draws = s.draws := rfl
@[simp] theorem State.halt_params (s : State) : (s.halt).params = s.params := rfl
@[simp] theorem State.halt_run (s : State) : s.halt.run = .halted := rfl

/-! ### timersTick: only the timers -/

@[simp] theorem State.timersTick_a (s : State) : (s.timersTick).a = s.a := rfl
@[simp] theorem State.timersTick_x (s : State) : (s.timersTick).x = s.x := rfl
@[simp] theorem State.timersTick_y (s : State) : (s.timersTick).y = s.y := rfl
@[simp] theorem State.timersTick_sp (s : State) : (s.timersTick).sp = s.sp := rfl
@[simp] theorem State.timersTick_pc (s : State) : (s.timersTick).pc = s.pc := rfl
@[simp] theorem State.timersTick_psw (s : State) : (s.timersTick).psw = s.psw := rfl
@[simp] theorem State.timersTick_run (s : State) : (s.timersTick).run = s.run := rfl
@[simp] theorem State.timersTick_faultInfo (s : State) : (s.timersTick).faultInfo = s.faultInfo := rfl
@[simp] theorem State.timersTick_ram (s : State) : (s.timersTick).ram = s.ram := rfl
@[simp] theorem State.timersTick_dspAddr (s : State) : (s.timersTick).dspAddr = s.dspAddr := rfl
@[simp] theorem State.timersTick_dsp (s : State) : (s.timersTick).dsp = s.dsp := rfl
@[simp] theorem State.timersTick_cycle (s : State) : (s.timersTick).cycle = s.cycle := rfl
@[simp] theorem State.timersTick_sampleCounter (s : State) : (s.timersTick).sampleCounter = s.sampleCounter := rfl
@[simp] theorem State.timersTick_nextSampleCycle (s : State) : (s.timersTick).nextSampleCycle = s.nextSampleCycle := rfl
@[simp] theorem State.timersTick_out (s : State) : (s.timersTick).out = s.out := rfl
@[simp] theorem State.timersTick_draws (s : State) : (s.timersTick).draws = s.draws := rfl
@[simp] theorem State.timersTick_params (s : State) : (s.timersTick).params = s.params := rfl
@[simp] theorem State.timersTick_timers (s : State) : s.timersTick.timers = tickTimers s.cycle s.timers := rfl

/-! ### produceSample: only the DSP, the output and the two sample counters -/

@[simp] theorem State.produceSample_a (s : State) : (s.produceSample).a = s.a := by
  dsimp only [State.produceSample]
@[simp] theorem State.produceSample_x (s : State) : (s.produceSample).x = s.x := by
  dsimp only [State.produceSample]
@[simp] theorem State.produceSample_y (s : State) : (s.produceSample).y = s.y := by
  dsimp only [State.produceSample]
@[simp] theorem State.produceSample_sp (s : State) : (s.produceSample).sp = s.sp := by
  dsimp only [State.produceSample]
@[simp] theorem State.produceSample_pc (s : State) : (s.produceSample).pc = s.pc := by
  dsimp only [State.produceSample]
@[simp] theorem State.produceSample_psw (s : State) : (s.produceSample).psw = s.psw := by
  dsimp only [State.produceSample]
@[simp] theorem State.produceSample_run (s : State) : (s.produceSample).run = s.run := by
  dsimp only [State.produceSample]
@[simp] theorem State.produceSample_faultInfo (s : State) : (s.produceSample).faultInfo = s.faultInfo := by
  dsimp only [State.produceSample]
@[simp] theorem State.produceSample_ram (s : State) : (s.produceSample).ram = s.ram := by
  dsimp only [State.produceSample]
@[simp] theorem State.produceSample_dspAddr (s : State) : (s.produceSample).dspAddr = s.dspAddr := by
  dsimp only [State.produceSample]
@[simp] theorem State.produceSample_timers (s : State) : (s.produceSample).timers = s.timers := by
  dsimp only [State.produceSample]
@[simp] theorem State.produceSample_cycle (s : State) : (s.produceSample).cycle = s.cycle := by
  dsimp only [State.produceSample]
@[simp] theorem State.produceSample_draws (s : State) : (s.produceSample).draws = s.draws := by
  dsimp only [State.produceSample]
@[simp] theorem State.produceSample_params (s : State) : (s.produceSample).params = s.params := by
  dsimp only [State.produceSample]
@[simp] theorem State.produceSample_sampleCounter (s : State) :
    s.produceSample.sampleCounter = s.sampleCounter + 1 := by
  dsimp only [State.produceSample]
@[simp] theorem State.produceSample_nextSampleCycle (s : State) :
    s.produceSample.nextSampleCycle = s.nextSampleCycle + 64 := by
  dsimp only [State.produceSample]

end Sys2Proof.Machine
end

