-- ==== Sys2Proof/Laws/Ops.lean ====
section
/-! SUPPORT. What the shared operations over memory can do: said once, cited afterwards instead of unfolding them. -/

namespace Sys2Proof.Machine

/-! ### memWrite: only RAM, the DSP index, the timers and the DSP -/

@[simp] theorem State.memWrite_a (s : State) (a : Addr) (v : Byte) : (s.memWrite a v).a = s.a := by
  unfold State.memWrite; split_ifs <;> first | rfl | (split <;> rfl)
@[simp] theorem State.memWrite_x (s : State) (a : Addr) (v : Byte) : (s.memWrite a v).x = s.x := by
  unfold State.memWrite; split_ifs <;> first | rfl | (split <;> rfl)
@[simp] theorem State.memWrite_y (s : State) (a : Addr) (v : Byte) : (s.memWrite a v).y = s.y := by
  unfold State.memWrite; split_ifs <;> first | rfl | (split <;> rfl)
@[simp] theorem State.memWrite_sp (s : State) (a : Addr) (v : Byte) : (s.memWrite a v).sp = s.sp := by
  unfold State.memWrite; split_ifs <;> first | rfl | (split <;> rfl)
@[simp] theorem State.memWrite_pc (s : State) (a : Addr) (v : Byte) : (s.memWrite a v).pc = s.pc := by
  unfold State.memWrite; split_ifs <;> first | rfl | (split <;> rfl)
@[simp] theorem State.memWrite_psw (s : State) (a : Addr) (v : Byte) : (s.memWrite a v).psw = s.psw := by
  unfold State.memWrite; split_ifs <;> first | rfl | (split <;> rfl)
@[simp] theorem State.memWrite_run (s : State) (a : Addr) (v : Byte) : (s.memWrite a v).run = s.run := by
  unfold State.memWrite; split_ifs <;> first | rfl | (split <;> rfl)
@[simp] theorem State.memWrite_faultInfo (s : State) (a : Addr) (v : Byte) : (s.memWrite a v).faultInfo = s.faultInfo := by
  unfold State.memWrite; split_ifs <;> first | rfl | (split <;> rfl)
@[simp] theorem State.memWrite_cycle (s : State) (a : Addr) (v : Byte) : (s.memWrite a v).cycle = s.cycle := by
  unfold State.memWrite; split_ifs <;> first | rfl | (split <;> rfl)
@[simp] theorem State.memWrite_sampleCounter (s : State) (a : Addr) (v : Byte) : (s.memWrite a v).sampleCounter = s.sampleCounter := by
  unfold State.memWrite; split_ifs <;> first | rfl | (split <;> rfl)
@[simp] theorem State.memWrite_nextSampleCycle (s : State) (a : Addr) (v : Byte) : (s.memWrite a v).nextSampleCycle = s.nextSampleCycle := by
  unfold State.memWrite; split_ifs <;> first | rfl | (split <;> rfl)
@[simp] theorem State.memWrite_out (s : State) (a : Addr) (v : Byte) : (s.memWrite a v).out = s.out := by
  unfold State.memWrite; split_ifs <;> first | rfl | (split <;> rfl)
@[simp] theorem State.memWrite_draws (s : State) (a : Addr) (v : Byte) : (s.memWrite a v).draws = s.draws := by
  unfold State.memWrite; split_ifs <;> first | rfl | (split <;> rfl)
@[simp] theorem State.memWrite_params (s : State) (a : Addr) (v : Byte) : (s.memWrite a v).params = s.params := by
  unfold State.memWrite; split_ifs <;> first | rfl | (split <;> rfl)

/-! ### push and popped: SP and what the one access changes -/

@[simp] theorem State.push_a (s : State) (v : Byte) : (s.push v).a = s.a := by
  simp [State.push]
@[simp] theorem State.push_x (s : State) (v : Byte) : (s.push v).x = s.x := by
  simp [State.push]
@[simp] theorem State.push_y (s : State) (v : Byte) : (s.push v).y = s.y := by
  simp [State.push]
@[simp] theorem State.push_pc (s : State) (v : Byte) : (s.push v).pc = s.pc := by
  simp [State.push]
@[simp] theorem State.push_psw (s : State) (v : Byte) : (s.push v).psw = s.psw := by
  simp [State.push]
@[simp] theorem State.push_run (s : State) (v : Byte) : (s.push v).run = s.run := by
  simp [State.push]
@[simp] theorem State.push_faultInfo (s : State) (v : Byte) : (s.push v).faultInfo = s.faultInfo := by
  simp [State.push]
@[simp] theorem State.push_cycle (s : State) (v : Byte) : (s.push v).cycle = s.cycle := by
  simp [State.push]
@[simp] theorem State.push_sampleCounter (s : State) (v : Byte) : (s.push v).sampleCounter = s.sampleCounter := by
  simp [State.push]
@[simp] theorem State.push_nextSampleCycle (s : State) (v : Byte) : (s.push v).nextSampleCycle = s.nextSampleCycle := by
  simp [State.push]
@[simp] theorem State.push_out (s : State) (v : Byte) : (s.push v).out = s.out := by
  simp [State.push]
@[simp] theorem State.push_draws (s : State) (v : Byte) : (s.push v).draws = s.draws := by
  simp [State.push]
@[simp] theorem State.push_params (s : State) (v : Byte) : (s.push v).params = s.params := by
  simp [State.push]
@[simp] theorem State.push_sp (s : State) (v : Byte) : (s.push v).sp = s.sp - 1 := rfl
@[simp] theorem State.popped_a (s : State) : (s.popped).a = s.a := rfl
@[simp] theorem State.popped_x (s : State) : (s.popped).x = s.x := rfl
@[simp] theorem State.popped_y (s : State) : (s.popped).y = s.y := rfl
@[simp] theorem State.popped_pc (s : State) : (s.popped).pc = s.pc := rfl
@[simp] theorem State.popped_psw (s : State) : (s.popped).psw = s.psw := rfl
@[simp] theorem State.popped_run (s : State) : (s.popped).run = s.run := rfl
@[simp] theorem State.popped_faultInfo (s : State) : (s.popped).faultInfo = s.faultInfo := rfl
@[simp] theorem State.popped_ram (s : State) : (s.popped).ram = s.ram := rfl
@[simp] theorem State.popped_dspAddr (s : State) : (s.popped).dspAddr = s.dspAddr := rfl
@[simp] theorem State.popped_dsp (s : State) : (s.popped).dsp = s.dsp := rfl
@[simp] theorem State.popped_cycle (s : State) : (s.popped).cycle = s.cycle := rfl
@[simp] theorem State.popped_sampleCounter (s : State) : (s.popped).sampleCounter = s.sampleCounter := rfl
@[simp] theorem State.popped_nextSampleCycle (s : State) : (s.popped).nextSampleCycle = s.nextSampleCycle := rfl
@[simp] theorem State.popped_out (s : State) : (s.popped).out = s.out := rfl
@[simp] theorem State.popped_draws (s : State) : (s.popped).draws = s.draws := rfl
@[simp] theorem State.popped_params (s : State) : (s.popped).params = s.params := rfl
@[simp] theorem State.popped_sp (s : State) : s.popped.sp = s.sp + 1 := rfl

/-! ### Operands: forming an address and reading change only counters -/

@[simp] theorem Loc.walk_a (o : Loc) (s : State) : (o.walk s).a = s.a := by cases o <;> rfl
@[simp] theorem Loc.walk_x (o : Loc) (s : State) : (o.walk s).x = s.x := by cases o <;> rfl
@[simp] theorem Loc.walk_y (o : Loc) (s : State) : (o.walk s).y = s.y := by cases o <;> rfl
@[simp] theorem Loc.walk_sp (o : Loc) (s : State) : (o.walk s).sp = s.sp := by cases o <;> rfl
@[simp] theorem Loc.walk_pc (o : Loc) (s : State) : (o.walk s).pc = s.pc := by cases o <;> rfl
@[simp] theorem Loc.walk_psw (o : Loc) (s : State) : (o.walk s).psw = s.psw := by cases o <;> rfl
@[simp] theorem Loc.walk_run (o : Loc) (s : State) : (o.walk s).run = s.run := by cases o <;> rfl
@[simp] theorem Loc.walk_faultInfo (o : Loc) (s : State) : (o.walk s).faultInfo = s.faultInfo := by cases o <;> rfl
@[simp] theorem Loc.walk_ram (o : Loc) (s : State) : (o.walk s).ram = s.ram := by cases o <;> rfl
@[simp] theorem Loc.walk_dspAddr (o : Loc) (s : State) : (o.walk s).dspAddr = s.dspAddr := by cases o <;> rfl
@[simp] theorem Loc.walk_dsp (o : Loc) (s : State) : (o.walk s).dsp = s.dsp := by cases o <;> rfl
@[simp] theorem Loc.walk_cycle (o : Loc) (s : State) : (o.walk s).cycle = s.cycle := by cases o <;> rfl
@[simp] theorem Loc.walk_sampleCounter (o : Loc) (s : State) : (o.walk s).sampleCounter = s.sampleCounter := by cases o <;> rfl
@[simp] theorem Loc.walk_nextSampleCycle (o : Loc) (s : State) : (o.walk s).nextSampleCycle = s.nextSampleCycle := by cases o <;> rfl
@[simp] theorem Loc.walk_out (o : Loc) (s : State) : (o.walk s).out = s.out := by cases o <;> rfl
@[simp] theorem Loc.walk_draws (o : Loc) (s : State) : (o.walk s).draws = s.draws := by cases o <;> rfl
@[simp] theorem Loc.walk_params (o : Loc) (s : State) : (o.walk s).params = s.params := by cases o <;> rfl
@[simp] theorem Loc.after_a (o : Loc) (s : State) : (o.after s).a = s.a := by cases o <;> rfl
@[simp] theorem Loc.after_x (o : Loc) (s : State) : (o.after s).x = s.x := by cases o <;> rfl
@[simp] theorem Loc.after_y (o : Loc) (s : State) : (o.after s).y = s.y := by cases o <;> rfl
@[simp] theorem Loc.after_sp (o : Loc) (s : State) : (o.after s).sp = s.sp := by cases o <;> rfl
@[simp] theorem Loc.after_pc (o : Loc) (s : State) : (o.after s).pc = s.pc := by cases o <;> rfl
@[simp] theorem Loc.after_psw (o : Loc) (s : State) : (o.after s).psw = s.psw := by cases o <;> rfl
@[simp] theorem Loc.after_run (o : Loc) (s : State) : (o.after s).run = s.run := by cases o <;> rfl
@[simp] theorem Loc.after_faultInfo (o : Loc) (s : State) : (o.after s).faultInfo = s.faultInfo := by cases o <;> rfl
@[simp] theorem Loc.after_ram (o : Loc) (s : State) : (o.after s).ram = s.ram := by cases o <;> rfl
@[simp] theorem Loc.after_dspAddr (o : Loc) (s : State) : (o.after s).dspAddr = s.dspAddr := by cases o <;> rfl
@[simp] theorem Loc.after_dsp (o : Loc) (s : State) : (o.after s).dsp = s.dsp := by cases o <;> rfl
@[simp] theorem Loc.after_cycle (o : Loc) (s : State) : (o.after s).cycle = s.cycle := by cases o <;> rfl
@[simp] theorem Loc.after_sampleCounter (o : Loc) (s : State) : (o.after s).sampleCounter = s.sampleCounter := by cases o <;> rfl
@[simp] theorem Loc.after_nextSampleCycle (o : Loc) (s : State) : (o.after s).nextSampleCycle = s.nextSampleCycle := by cases o <;> rfl
@[simp] theorem Loc.after_out (o : Loc) (s : State) : (o.after s).out = s.out := by cases o <;> rfl
@[simp] theorem Loc.after_draws (o : Loc) (s : State) : (o.after s).draws = s.draws := by cases o <;> rfl
@[simp] theorem Loc.after_params (o : Loc) (s : State) : (o.after s).params = s.params := by cases o <;> rfl
@[simp] theorem Src.after_a (o : Src) (s : State) : (o.after s).a = s.a := by
  rcases o with i | l
  · rfl
  · exact l.after_a s
@[simp] theorem Src.after_x (o : Src) (s : State) : (o.after s).x = s.x := by
  rcases o with i | l
  · rfl
  · exact l.after_x s
@[simp] theorem Src.after_y (o : Src) (s : State) : (o.after s).y = s.y := by
  rcases o with i | l
  · rfl
  · exact l.after_y s
@[simp] theorem Src.after_sp (o : Src) (s : State) : (o.after s).sp = s.sp := by
  rcases o with i | l
  · rfl
  · exact l.after_sp s
@[simp] theorem Src.after_pc (o : Src) (s : State) : (o.after s).pc = s.pc := by
  rcases o with i | l
  · rfl
  · exact l.after_pc s
@[simp] theorem Src.after_psw (o : Src) (s : State) : (o.after s).psw = s.psw := by
  rcases o with i | l
  · rfl
  · exact l.after_psw s
@[simp] theorem Src.after_run (o : Src) (s : State) : (o.after s).run = s.run := by
  rcases o with i | l
  · rfl
  · exact l.after_run s
@[simp] theorem Src.after_faultInfo (o : Src) (s : State) : (o.after s).faultInfo = s.faultInfo := by
  rcases o with i | l
  · rfl
  · exact l.after_faultInfo s
@[simp] theorem Src.after_ram (o : Src) (s : State) : (o.after s).ram = s.ram := by
  rcases o with i | l
  · rfl
  · exact l.after_ram s
@[simp] theorem Src.after_dspAddr (o : Src) (s : State) : (o.after s).dspAddr = s.dspAddr := by
  rcases o with i | l
  · rfl
  · exact l.after_dspAddr s
@[simp] theorem Src.after_dsp (o : Src) (s : State) : (o.after s).dsp = s.dsp := by
  rcases o with i | l
  · rfl
  · exact l.after_dsp s
@[simp] theorem Src.after_cycle (o : Src) (s : State) : (o.after s).cycle = s.cycle := by
  rcases o with i | l
  · rfl
  · exact l.after_cycle s
@[simp] theorem Src.after_sampleCounter (o : Src) (s : State) : (o.after s).sampleCounter = s.sampleCounter := by
  rcases o with i | l
  · rfl
  · exact l.after_sampleCounter s
@[simp] theorem Src.after_nextSampleCycle (o : Src) (s : State) : (o.after s).nextSampleCycle = s.nextSampleCycle := by
  rcases o with i | l
  · rfl
  · exact l.after_nextSampleCycle s
@[simp] theorem Src.after_out (o : Src) (s : State) : (o.after s).out = s.out := by
  rcases o with i | l
  · rfl
  · exact l.after_out s
@[simp] theorem Src.after_draws (o : Src) (s : State) : (o.after s).draws = s.draws := by
  rcases o with i | l
  · rfl
  · exact l.after_draws s
@[simp] theorem Src.after_params (o : Src) (s : State) : (o.after s).params = s.params := by
  rcases o with i | l
  · rfl
  · exact l.after_params s

/-! ### Reads -/

/-- Away from 0x00F3 and the counters a read gives the RAM byte (20_memory.md R31). -/
theorem State.peek_ram {s : State} {a : Addr} (h3 : a ≠ 0x00F3#16) (hc : counterAt a = none) :
    s.peek a = s.ram.read a := by
  simp [State.peek, h3, hc]

/-- A read of 0x00F3 gives the selected DSP register (R31). -/
theorem State.peek_dsp (s : State) : s.peek 0x00F3#16 = s.dsp.reg s.dspAddr := rfl

/-- A read of a counter's address gives the counter (R31). -/
theorem State.peek_counter {s : State} {a : Addr} {i : Fin 3} (h : counterAt a = some i) :
    s.peek a = (s.timers.get i).counter.setWidth 8 := by
  have h3 : a ≠ 0x00F3#16 := by rintro rfl; simp [counterAt] at h
  simp [State.peek, h3, h]

/-- Where `counterAt` answers a timer, the address is 0x00FD plus its number. -/
theorem counterAt_eq_some {a : Addr} {i : Fin 3} (h : counterAt a = some i) : a = 0x00FD#16 + BitVec.ofNat 16 i.val := by
  unfold counterAt at h
  split_ifs at h with h1 h2 h3 <;> simp at h <;> subst h <;> simp_all

/-- No address of the stack page is a counter's. -/
@[simp] theorem counterAt_stackAddr (sp : Byte) : counterAt (stackAddr sp) = none := by
  have h : ∀ sp : Byte, counterAt (stackAddr sp) = none := by decide
  exact h sp

/-- A read away from the counters has no side effect (R31). -/
theorem State.touch_of_not_counter {s : State} {a : Addr} (h : counterAt a = none) : s.touch a = s := by
  simp [State.touch, clearCounter, h]

/-- A read of `a` clears the counter whose address `a` is and touches no other timer (20_memory.md R31). -/
theorem State.timers_touch (s : State) (a : Addr) (j : Fin 3) :
    (s.touch a).timers.get j =
      if 0x00FD#16 + BitVec.ofNat 16 j.val = a then { s.timers.get j with counter := 0 } else s.timers.get j := by
  cases hc : counterAt a with
  | none =>
    rw [State.touch_of_not_counter hc, if_neg]
    rintro rfl
    revert hc j
    decide
  | some k =>
    obtain rfl := counterAt_eq_some hc
    have same : (0x00FD#16 + BitVec.ofNat 16 j.val = 0x00FD#16 + BitVec.ofNat 16 k.val) ↔ j = k := by
      revert j k
      decide
    simp only [same, State.touch, clearCounter, hc]
    by_cases e : j = k
    · subst e
      rw [if_pos rfl]
      exact Vector.getElem_set_self ..
    · rw [if_neg e]
      exact Vector.getElem_set_ne _ _ (fun q => e (Fin.ext q.symm))

/-- Reads one after the other clear the counters they read and touch no other timer (R31). -/
theorem State.timers_foldl_touch (s : State) (reads : List Addr) (j : Fin 3) :
    (reads.foldl State.touch s).timers.get j =
      if 0x00FD#16 + BitVec.ofNat 16 j.val ∈ reads then { s.timers.get j with counter := 0 } else s.timers.get j := by
  induction reads generalizing s with
  | nil => simp
  | cons a as ih =>
    rw [List.foldl_cons, ih, State.timers_touch]
    by_cases h : 0x00FD#16 + BitVec.ofNat 16 j.val = a <;>
      by_cases h' : 0x00FD#16 + BitVec.ofNat 16 j.val ∈ as <;> simp [h, h']

/-- A pop has no side effect but the step of SP: the stack page has no counter. -/
@[simp] theorem State.popped_eq (s : State) : s.popped = { s with sp := s.sp + 1 } := by
  simp [State.popped, State.touch_of_not_counter]

/-! ### Writes -/

/-- Everything `MemWrite` can do (20_memory.md R32): one of five cases by the address. -/
theorem State.memWrite_cases (s : State) (a : Addr) (v : Byte) :
    (a = 0x00F1#16 ∧ s.memWrite a v =
      { s with ram := s.ram.write a v, timers := controlTimers (s.ram.write a v) s.cycle v }) ∨
    (a = 0x00F2#16 ∧ s.memWrite a v = { s with ram := s.ram.write a v, dspAddr := v.setWidth 7 }) ∨
    (a = 0x00F3#16 ∧ s.memWrite a v = { s with dsp := dspWrite s.ram s.sampleCounter s.dspAddr v s.dsp }) ∨
    ((counterAt a).isSome ∧ s.memWrite a v = s) ∨
    (a ≠ 0x00F1#16 ∧ a ≠ 0x00F2#16 ∧ a ≠ 0x00F3#16 ∧ counterAt a = none ∧
      s.memWrite a v = { s with ram := s.ram.write a v }) := by
  by_cases h1 : a = 0x00F1#16
  · exact .inl ⟨h1, by simp [State.memWrite, h1]⟩
  by_cases h2 : a = 0x00F2#16
  · exact .inr (.inl ⟨h2, by simp [State.memWrite, h2]⟩)
  by_cases h3 : a = 0x00F3#16
  · exact .inr (.inr (.inl ⟨h3, by simp [State.memWrite, h3]⟩))
  cases hc : counterAt a with
  | some i => exact .inr (.inr (.inr (.inl ⟨rfl, by simp [State.memWrite, h1, h2, h3, hc]⟩)))
  | none => exact .inr (.inr (.inr (.inr ⟨h1, h2, h3, rfl, by simp [State.memWrite, h1, h2, h3, hc]⟩)))

/-- A write away from 0x00F1 to 0x00F3 and the counters only stores the byte (R32). -/
theorem State.memWrite_ram {s : State} {a : Addr} (h1 : a ≠ 0x00F1#16) (h2 : a ≠ 0x00F2#16) (h3 : a ≠ 0x00F3#16)
    (hc : counterAt a = none) (v : Byte) : s.memWrite a v = { s with ram := s.ram.write a v } := by
  simp [State.memWrite, h1, h2, h3, hc]

/-- A write changes the raw RAM at no other address. -/
theorem State.memWrite_read_other (s : State) {a b : Addr} (h : b ≠ a) (v : Byte) :
    (s.memWrite a v).ram.read b = s.ram.read b := by
  rcases s.memWrite_cases a v with ⟨-, e⟩ | ⟨-, e⟩ | ⟨-, e⟩ | ⟨-, e⟩ | ⟨-, -, -, -, e⟩ <;>
    simp [e, Memory.read_write_other _ h]

/-- A write keeps RAM in its canonical form. -/
theorem State.memWrite_wf {s : State} (h : s.ram.wf = true) (a : Addr) (v : Byte) : (s.memWrite a v).ram.wf = true := by
  rcases s.memWrite_cases a v with ⟨-, e⟩ | ⟨-, e⟩ | ⟨-, e⟩ | ⟨-, e⟩ | ⟨-, -, -, -, e⟩ <;>
    simp [e, h, Memory.wf_write h]

/-- A write changes a timer only through 0x00F1 (20_memory.md R32). -/
theorem State.timers_memWrite (s : State) {a : Addr} (h : a ≠ 0x00F1#16) (v : Byte) : (s.memWrite a v).timers = s.timers := by
  rcases s.memWrite_cases a v with ⟨e, -⟩ | ⟨-, e⟩ | ⟨-, e⟩ | ⟨-, e⟩ | ⟨-, -, -, -, e⟩
  · exact absurd e h
  all_goals rw [e]

/-- A push is a plain store in page 1 and a step of SP (20_memory.md R42). -/
theorem State.push_eq (s : State) (v : Byte) :
    s.push v = { s with ram := s.ram.write (stackAddr s.sp) v, sp := s.sp - 1 } := by
  have h : ∀ sp : Byte, stackAddr sp ≠ 0x00F1#16 ∧ stackAddr sp ≠ 0x00F2#16 ∧ stackAddr sp ≠ 0x00F3#16 := by decide
  obtain ⟨h1, h2, h3⟩ := h s.sp
  rw [State.push, State.memWrite_ram h1 h2 h3 (counterAt_stackAddr _)]

/-- A push changes no timer. -/
@[simp] theorem State.push_timers (s : State) (v : Byte) : (s.push v).timers = s.timers := by rw [State.push_eq]

/-- The byte a pop returns is the RAM byte at the next stack address (R43). -/
theorem State.popValue_eq (s : State) : s.popValue = s.ram.read (stackAddr (s.sp + 1)) := by
  have h : ∀ sp : Byte, stackAddr sp ≠ 0x00F3#16 := by decide
  exact State.peek_ram (h _) (counterAt_stackAddr _)

/-! ### Operands -/

/-- Forming an operand's address changes nothing but counters cleared by the pointer reads (20_memory.md R51, R52). -/
theorem Loc.walk_eq (l : Loc) (s : State) : l.walk s = { s with timers := (l.walk s).timers } := by
  cases l <;> rfl

/-- Reading an operand changes nothing but counters cleared by the reads. -/
theorem Loc.after_eq (l : Loc) (s : State) : l.after s = { s with timers := (l.after s).timers } := by
  cases l <;> rfl

/-- Reading a source changes nothing but counters cleared by the reads. -/
theorem Src.after_eq (o : Src) (s : State) : o.after s = { s with timers := (o.after s).timers } := by
  rcases o with i | l
  · rfl
  · exact l.after_eq s

/-- A write does not look at the flags, nor change them. -/
theorem State.memWrite_with_psw (s : State) (f : Psw) (a : Addr) (v : Byte) :
    ({ s with psw := f } : State).memWrite a v = { s.memWrite a v with psw := f } := by
  unfold State.memWrite; split_ifs <;> first | rfl | (split <;> rfl)

/-- A write changes RAM, the DSP index, the timers and the DSP, nothing else (R32). -/
theorem State.memWrite_eq (s : State) (a : Addr) (v : Byte) :
    s.memWrite a v = { s with
      ram := (s.memWrite a v).ram, dspAddr := (s.memWrite a v).dspAddr,
      timers := (s.memWrite a v).timers, dsp := (s.memWrite a v).dsp } := by
  unfold State.memWrite; split_ifs <;> first | rfl | (split <;> rfl)

@[simp] theorem State.dp_touch (s : State) (a : Addr) (o : Byte) : (s.touch a).dp o = s.dp o := rfl
@[simp] theorem State.dphi_touch (s : State) (a : Addr) (o : Byte) : (s.touch a).dphi o = s.dphi o := rfl
@[simp] theorem State.dp_memWrite (s : State) (a : Addr) (v o : Byte) : (s.memWrite a v).dp o = s.dp o := by
  simp [State.dp]
@[simp] theorem State.dphi_memWrite (s : State) (a : Addr) (v o : Byte) : (s.memWrite a v).dphi o = s.dphi o := by
  simp [State.dphi]

/-- The stack addresses of two values of SP differ where the values do (20_memory.md R42). -/
theorem stackAddr_ne {a b : Byte} (h : a ≠ b) : stackAddr a ≠ stackAddr b := by
  intro e
  apply h
  apply BitVec.eq_of_toNat_eq
  have := congrArg BitVec.toNat e
  have := a.isLt
  have := b.isLt
  simp [stackAddr] at *
  omega

/-- The flags packed and unpacked are the flags (10_state.md R18). -/
@[simp] theorem Psw.ofByte_toByte (f : Psw) : Psw.ofByte f.toByte = f := by
  rcases f with ⟨a, b, c, d, e, f, g, h⟩
  revert a b c d e f g h
  decide

/-- A byte unpacked and packed is the byte: PSW has no bit that reads otherwise (R18). -/
@[simp] theorem Psw.toByte_ofByte (v : Byte) : (Psw.ofByte v).toByte = v := by
  revert v
  decide

/-- A tier E instruction with EXT_OPCODES true has its effect (00_scope.md R7). -/
theorem State.tierE_ext {s : State} (h : s.params.extOpcodes = true) (i : Instr) (t : State) : s.tierE i t = t := by
  simp [State.tierE, h]

/-- A tier E instruction with EXT_OPCODES false raises UnknownOpcode (60_exceptions.md R304). -/
theorem State.tierE_unknown {s : State} (h : s.params.extOpcodes = false) (i : Instr) (t : State) :
    s.tierE i t = s.raiseUnknown i.opcode := by
  simp [State.tierE, h]

/-! ### Every memory operation keeps RAM's canonical form -/

/-- A push keeps the canonical form. -/
theorem State.wf_push {s : State} (h : s.ram.wf = true) (v : Byte) : (s.push v).ram.wf = true := State.memWrite_wf h _ v

/-- So does the push of a word. -/
theorem State.wf_pushWord {s : State} (h : s.ram.wf = true) (w : Addr) : (s.pushWord w).ram.wf = true :=
  State.wf_push (State.wf_push h _) _

/-- So does the write of a direct-page word. -/
theorem State.wf_dpWordWrite {s : State} (h : s.ram.wf = true) (o : Byte) (w : Addr) : (s.dpWordWrite o w).ram.wf = true :=
  State.memWrite_wf (State.memWrite_wf h _ _) _ _

/-- So does the entry of the software trap. -/
theorem State.wf_enterTrap {s : State} (h : s.ram.wf = true) (ret : Addr) : (s.enterTrap ret).ram.wf = true :=
  State.wf_push (State.wf_pushWord h ret) _

/-- RAM at reset is in canonical form. -/
theorem State.wf_reset : State.reset.ram.wf = true := rfl

end Sys2Proof.Machine
end

