-- ==== Sys2Proof/Laws/Word.lean ====
section
/-! SUPPORT. The laws of byte pairs: a word's two bytes, and the word of two bytes, on naturals. -/

namespace Sys2Proof

/-- `hi * 256 + lo` (00_scope.md R9). -/
theorem wordOf_toNat (hi lo : Byte) : (wordOf hi lo).toNat = hi.toNat * 256 + lo.toNat := by
  simp only [wordOf, BitVec.toNat_append]
  rw [← Nat.shiftLeft_add_eq_or_of_lt (by omega)]
  omega

/-- The high byte of a word. -/
theorem hiByte_toNat (w : Addr) : (hiByte w).toNat = w.toNat / 256 := by
  simp [hiByte]
  omega

/-- The low byte of a word. -/
theorem loByte_toNat (w : Addr) : (loByte w).toNat = w.toNat % 256 := by
  simp [loByte]

@[simp] theorem hiByte_wordOf (hi lo : Byte) : hiByte (wordOf hi lo) = hi := by
  apply BitVec.eq_of_toNat_eq
  rw [hiByte_toNat, wordOf_toNat]
  omega

@[simp] theorem loByte_wordOf (hi lo : Byte) : loByte (wordOf hi lo) = lo := by
  apply BitVec.eq_of_toNat_eq
  rw [loByte_toNat, wordOf_toNat]
  omega

@[simp] theorem wordOf_hiByte_loByte (w : Addr) : wordOf (hiByte w) (loByte w) = w := by
  apply BitVec.eq_of_toNat_eq
  rw [wordOf_toNat, hiByte_toNat, loByte_toNat]
  omega

/-- The sign bit of a word is that of its high byte. -/
theorem wordOf_msb (hi lo : Byte) : (wordOf hi lo).msb = hi.getLsbD 7 := by
  rw [show hi.getLsbD 7 = hi.msb from rfl, BitVec.msb_eq_decide, BitVec.msb_eq_decide, wordOf_toNat]
  simp
  omega

/-- A word is zero where both its bytes are. -/
theorem wordOf_eq_zero (hi lo : Byte) : wordOf hi lo = 0 ↔ lo = 0 ∧ hi = 0 := by
  constructor
  · intro h
    have := wordOf_toNat hi lo
    rw [h] at this
    constructor <;> apply BitVec.eq_of_toNat_eq <;> simp at * <;> omega
  · rintro ⟨rfl, rfl⟩
    rfl

/-- The operand word of a memory-bit form on naturals: the bit number above the 13-bit address (20_memory.md R56). -/
theorem memBitWord_toNat (m : Addr) (b : BitVec 3) : (memBitWord m b).toNat = b.toNat * 0x2000 + m.toNat % 0x2000 := by
  simp only [memBitWord, BitVec.toNat_append, BitVec.extractLsb'_toNat]
  rw [← Nat.shiftLeft_add_eq_or_of_lt (by omega)]
  omega

/-- The operand word of a memory-bit form gives back its bit number (R56). -/
@[simp] theorem memBitIndex_memBitWord (m : Addr) (b : BitVec 3) : memBitIndex (memBitWord m b) = b := by
  apply BitVec.eq_of_toNat_eq
  simp only [memBitIndex, BitVec.extractLsb'_toNat, memBitWord_toNat, Nat.shiftRight_eq_div_pow]
  omega

/-- The operand word of a memory-bit form gives back an address below 0x2000 (R56). -/
theorem memBitAddr_memBitWord {m : Addr} (h : m.toNat < 0x2000) (b : BitVec 3) : memBitAddr (memBitWord m b) = m := by
  apply BitVec.eq_of_toNat_eq
  simp only [memBitAddr, BitVec.toNat_setWidth, BitVec.extractLsb'_toNat, memBitWord_toNat, Nat.shiftRight_eq_div_pow]
  omega

/-- A bit field is the quotient by its weight, at the field's width. -/
theorem extractLsb'_eq_ofNat {n : Nat} (v : BitVec n) (lo width : Nat) :
    v.extractLsb' lo width = BitVec.ofNat width (v.toNat / 2 ^ lo) := by
  apply BitVec.eq_of_toNat_eq
  simp [Nat.shiftRight_eq_div_pow]

end Sys2Proof
end

