-- ==== Sys2Proof/Laws/Exec.lean ====
section
/-! SUPPORT. The bridge from the model's operations to the terms of the statements (Safety.lean), and the inversion of a step. -/

namespace Sys2Proof.Machine

/-- `setNZ8` in the statements' terms. -/
theorem State.setNZ8_eq (s : State) (v : Byte) : s.setNZ8 v = { s with psw := s.psw.nz8 v } := by
  simp [State.setNZ8, Psw.nz8]
  exact ⟨rfl, by grind⟩

/-- `setNZ16` in the statements' terms. -/
theorem State.setNZ16_eq (s : State) (v : Addr) : s.setNZ16 v = { s with psw := s.psw.nz16 v } := by
  simp [State.setNZ16, Psw.nz16]
  exact ⟨rfl, by grind⟩

/-- The end of an instruction that falls through, where its effect left pc, cycle and parameters. -/
theorem State.advance_eq_ended {t s : State} (hp : t.pc = s.pc) (hc : t.cycle = s.cycle) (hq : t.params = s.params)
    (i : Instr) : t.advance i = t.ended s i := by
  simp [State.ended, State.advance, State.goto, State.nextPc, hp, hc, hq]

/-- The end of a conditional branch, where its effect left pc, cycle and parameters. -/
theorem State.branch_eq_branched {t s : State} (hp : t.pc = s.pc) (hc : t.cycle = s.cycle) (hq : t.params = s.params)
    (i : Instr) (taken : Bool) (r : Byte) : t.branch i taken r = t.branched s i taken r := by
  have sext : BitVec.ofInt 16 r.toInt = r.signExtend 16 := rfl
  cases taken <;> simp [State.branch, State.branched, State.goto, State.nextPc, sext8, sext, hp, hc, hq]

/-- The end of a jump, where its effect left cycle and parameters. -/
theorem State.goto_eq_jumped {t s : State} (hc : t.cycle = s.cycle) (hq : t.params = s.params) (i : Instr) (a : Addr) :
    t.goto i false a = t.jumped s i a := by
  simp [State.goto, State.jumped, hc, hq]

/-- Forming an operand's address is reading its pointer's two bytes, or nothing (20_memory.md R51, R52). -/
theorem Loc.walk_eq_foldl (l : Loc) (s : State) : l.walk s = (l.pointerAddrs s).foldl State.touch s := by
  cases l <;> rfl

/-- Reading an operand is reading the addresses of `readAddrs`, in order. -/
theorem Loc.after_eq_foldl (l : Loc) (s : State) : l.after s = (l.readAddrs s).foldl State.touch s := by
  cases l <;> rfl

/-- Reading a direct-page word is reading its two bytes, low first (R41). -/
theorem State.touchDpWord_eq_foldl (s : State) (o : Byte) : s.touchDpWord o = (s.dpWordAddrs o).foldl State.touch s := rfl

/-- A step that answers next: the CPU was running, the instruction answered next, and the step ended. -/
theorem step_eq_next {s t : State} (h : step s = .next t) :
    s.run = .running ∧ ∃ u, exec s.fetched s.afterFetch = .next u ∧ t = u.endStep := by
  cases hr : s.run <;> simp [step, hr] at h
  refine ⟨rfl, ?_⟩
  split at h <;> simp_all

/-- The fetch changes nothing but counters cleared by its reads (20_memory.md R62). -/
theorem State.afterFetch_eq (s : State) : s.afterFetch = { s with timers := s.afterFetch.timers } := by
  unfold State.afterFetch State.afterB1 State.afterOp
  split_ifs <;> rfl

/-- The sample loop runs until the next sample is due after the current cycle, given fuel enough (60_exceptions.md R312). -/
theorem produceSamples_done (fuel : Nat) (s : State) (h : s.cycle < s.nextSampleCycle + 64 * fuel) :
    (produceSamples fuel s).cycle < (produceSamples fuel s).nextSampleCycle := by
  induction fuel generalizing s with
  | zero => simpa [produceSamples] using h
  | succ n ih =>
    unfold produceSamples
    split
    · apply ih
      simp
      omega
    · omega

end Sys2Proof.Machine
end

