-- ==== Sys2Proof/Laws/PerInstr.lean ====
section
/-! SUPPORT. A statement made for every instruction, and its proof constructor by constructor: the encoding of an instruction has
the length its opcode byte announces (30_encoding.md R65). -/

namespace Sys2Proof.Laws.Encoding

/-- The bytes of an instruction are as many as its format has and as its opcode byte alone announces (R65, R66). -/
def Statement (i : Instr) : Prop :=
  (encode i).length = i.length ∧ lengthOf i.opcode = i.length

theorem movAImm (i : Byte) : Statement (.movAImm i) := ⟨rfl, (by decide : lengthOf 0xE8 = 2)⟩
theorem movAIndX : Statement .movAIndX := ⟨rfl, (by decide : lengthOf 0xE6 = 1)⟩
theorem movAIndXInc : Statement .movAIndXInc := ⟨rfl, (by decide : lengthOf 0xBF = 1)⟩
theorem movADp (d : Byte) : Statement (.movADp d) := ⟨rfl, (by decide : lengthOf 0xE4 = 2)⟩
theorem movADpX (d : Byte) : Statement (.movADpX d) := ⟨rfl, (by decide : lengthOf 0xF4 = 2)⟩
theorem movAAbs (a : Addr) : Statement (.movAAbs a) := ⟨rfl, (by decide : lengthOf 0xE5 = 3)⟩
theorem movAAbsX (a : Addr) : Statement (.movAAbsX a) := ⟨rfl, (by decide : lengthOf 0xF5 = 3)⟩
theorem movAAbsY (a : Addr) : Statement (.movAAbsY a) := ⟨rfl, (by decide : lengthOf 0xF6 = 3)⟩
theorem movAIdxInd (d : Byte) : Statement (.movAIdxInd d) := ⟨rfl, (by decide : lengthOf 0xE7 = 2)⟩
theorem movAIndIdx (d : Byte) : Statement (.movAIndIdx d) := ⟨rfl, (by decide : lengthOf 0xF7 = 2)⟩
theorem movXImm (i : Byte) : Statement (.movXImm i) := ⟨rfl, (by decide : lengthOf 0xCD = 2)⟩
theorem movXDp (d : Byte) : Statement (.movXDp d) := ⟨rfl, (by decide : lengthOf 0xF8 = 2)⟩
theorem movXDpY (d : Byte) : Statement (.movXDpY d) := ⟨rfl, (by decide : lengthOf 0xF9 = 2)⟩
theorem movXAbs (a : Addr) : Statement (.movXAbs a) := ⟨rfl, (by decide : lengthOf 0xE9 = 3)⟩
theorem movYImm (i : Byte) : Statement (.movYImm i) := ⟨rfl, (by decide : lengthOf 0x8D = 2)⟩
theorem movYDp (d : Byte) : Statement (.movYDp d) := ⟨rfl, (by decide : lengthOf 0xEB = 2)⟩
theorem movYDpX (d : Byte) : Statement (.movYDpX d) := ⟨rfl, (by decide : lengthOf 0xFB = 2)⟩
theorem movYAbs (a : Addr) : Statement (.movYAbs a) := ⟨rfl, (by decide : lengthOf 0xEC = 3)⟩
theorem movIndXA : Statement .movIndXA := ⟨rfl, (by decide : lengthOf 0xC6 = 1)⟩
theorem movIndXIncA : Statement .movIndXIncA := ⟨rfl, (by decide : lengthOf 0xAF = 1)⟩
theorem movDpA (d : Byte) : Statement (.movDpA d) := ⟨rfl, (by decide : lengthOf 0xC4 = 2)⟩
theorem movDpXA (d : Byte) : Statement (.movDpXA d) := ⟨rfl, (by decide : lengthOf 0xD4 = 2)⟩
theorem movAbsA (a : Addr) : Statement (.movAbsA a) := ⟨rfl, (by decide : lengthOf 0xC5 = 3)⟩
theorem movAbsXA (a : Addr) : Statement (.movAbsXA a) := ⟨rfl, (by decide : lengthOf 0xD5 = 3)⟩
theorem movAbsYA (a : Addr) : Statement (.movAbsYA a) := ⟨rfl, (by decide : lengthOf 0xD6 = 3)⟩
theorem movIdxIndA (d : Byte) : Statement (.movIdxIndA d) := ⟨rfl, (by decide : lengthOf 0xC7 = 2)⟩
theorem movIndIdxA (d : Byte) : Statement (.movIndIdxA d) := ⟨rfl, (by decide : lengthOf 0xD7 = 2)⟩
theorem movDpX (d : Byte) : Statement (.movDpX d) := ⟨rfl, (by decide : lengthOf 0xD8 = 2)⟩
theorem movDpYX (d : Byte) : Statement (.movDpYX d) := ⟨rfl, (by decide : lengthOf 0xD9 = 2)⟩
theorem movAbsX (a : Addr) : Statement (.movAbsX a) := ⟨rfl, (by decide : lengthOf 0xC9 = 3)⟩
theorem movDpY (d : Byte) : Statement (.movDpY d) := ⟨rfl, (by decide : lengthOf 0xCB = 2)⟩
theorem movDpXY (d : Byte) : Statement (.movDpXY d) := ⟨rfl, (by decide : lengthOf 0xDB = 2)⟩
theorem movAbsY (a : Addr) : Statement (.movAbsY a) := ⟨rfl, (by decide : lengthOf 0xCC = 3)⟩
theorem movAX : Statement .movAX := ⟨rfl, (by decide : lengthOf 0x7D = 1)⟩
theorem movAY : Statement .movAY := ⟨rfl, (by decide : lengthOf 0xDD = 1)⟩
theorem movXA : Statement .movXA := ⟨rfl, (by decide : lengthOf 0x5D = 1)⟩
theorem movYA : Statement .movYA := ⟨rfl, (by decide : lengthOf 0xFD = 1)⟩
theorem movXSp : Statement .movXSp := ⟨rfl, (by decide : lengthOf 0x9D = 1)⟩
theorem movSpX : Statement .movSpX := ⟨rfl, (by decide : lengthOf 0xBD = 1)⟩
theorem movDpDp (ds : Byte) (dd : Byte) : Statement (.movDpDp ds dd) := ⟨rfl, (by decide : lengthOf 0xFA = 3)⟩
theorem movDpImm (i : Byte) (d : Byte) : Statement (.movDpImm i d) := ⟨rfl, (by decide : lengthOf 0x8F = 3)⟩
theorem movwYADp (d : Byte) : Statement (.movwYADp d) := ⟨rfl, (by decide : lengthOf 0xBA = 2)⟩
theorem movwDpYA (d : Byte) : Statement (.movwDpYA d) := ⟨rfl, (by decide : lengthOf 0xDA = 2)⟩
theorem xcn : Statement .xcn := ⟨rfl, (by decide : lengthOf 0x9F = 1)⟩
theorem pushA : Statement .pushA := ⟨rfl, (by decide : lengthOf 0x2D = 1)⟩
theorem pushX : Statement .pushX := ⟨rfl, (by decide : lengthOf 0x4D = 1)⟩
theorem pushY : Statement .pushY := ⟨rfl, (by decide : lengthOf 0x6D = 1)⟩
theorem pushPsw : Statement .pushPsw := ⟨rfl, (by decide : lengthOf 0x0D = 1)⟩
theorem popA : Statement .popA := ⟨rfl, (by decide : lengthOf 0xAE = 1)⟩
theorem popX : Statement .popX := ⟨rfl, (by decide : lengthOf 0xCE = 1)⟩
theorem popY : Statement .popY := ⟨rfl, (by decide : lengthOf 0xEE = 1)⟩
theorem popPsw : Statement .popPsw := ⟨rfl, (by decide : lengthOf 0x8E = 1)⟩
theorem orAImm (i : Byte) : Statement (.orAImm i) := ⟨rfl, (by decide : lengthOf 0x08 = 2)⟩
theorem orAIndX : Statement .orAIndX := ⟨rfl, (by decide : lengthOf 0x06 = 1)⟩
theorem orADp (d : Byte) : Statement (.orADp d) := ⟨rfl, (by decide : lengthOf 0x04 = 2)⟩
theorem orADpX (d : Byte) : Statement (.orADpX d) := ⟨rfl, (by decide : lengthOf 0x14 = 2)⟩
theorem orAAbs (a : Addr) : Statement (.orAAbs a) := ⟨rfl, (by decide : lengthOf 0x05 = 3)⟩
theorem orAAbsX (a : Addr) : Statement (.orAAbsX a) := ⟨rfl, (by decide : lengthOf 0x15 = 3)⟩
theorem orAAbsY (a : Addr) : Statement (.orAAbsY a) := ⟨rfl, (by decide : lengthOf 0x16 = 3)⟩
theorem orAIdxInd (d : Byte) : Statement (.orAIdxInd d) := ⟨rfl, (by decide : lengthOf 0x07 = 2)⟩
theorem orAIndIdx (d : Byte) : Statement (.orAIndIdx d) := ⟨rfl, (by decide : lengthOf 0x17 = 2)⟩
theorem orIndXIndY : Statement .orIndXIndY := ⟨rfl, (by decide : lengthOf 0x19 = 1)⟩
theorem orDpDp (ds : Byte) (dd : Byte) : Statement (.orDpDp ds dd) := ⟨rfl, (by decide : lengthOf 0x09 = 3)⟩
theorem orDpImm (i : Byte) (d : Byte) : Statement (.orDpImm i d) := ⟨rfl, (by decide : lengthOf 0x18 = 3)⟩
theorem andAImm (i : Byte) : Statement (.andAImm i) := ⟨rfl, (by decide : lengthOf 0x28 = 2)⟩
theorem andAIndX : Statement .andAIndX := ⟨rfl, (by decide : lengthOf 0x26 = 1)⟩
theorem andADp (d : Byte) : Statement (.andADp d) := ⟨rfl, (by decide : lengthOf 0x24 = 2)⟩
theorem andADpX (d : Byte) : Statement (.andADpX d) := ⟨rfl, (by decide : lengthOf 0x34 = 2)⟩
theorem andAAbs (a : Addr) : Statement (.andAAbs a) := ⟨rfl, (by decide : lengthOf 0x25 = 3)⟩
theorem andAAbsX (a : Addr) : Statement (.andAAbsX a) := ⟨rfl, (by decide : lengthOf 0x35 = 3)⟩
theorem andAAbsY (a : Addr) : Statement (.andAAbsY a) := ⟨rfl, (by decide : lengthOf 0x36 = 3)⟩
theorem andAIdxInd (d : Byte) : Statement (.andAIdxInd d) := ⟨rfl, (by decide : lengthOf 0x27 = 2)⟩
theorem andAIndIdx (d : Byte) : Statement (.andAIndIdx d) := ⟨rfl, (by decide : lengthOf 0x37 = 2)⟩
theorem andIndXIndY : Statement .andIndXIndY := ⟨rfl, (by decide : lengthOf 0x39 = 1)⟩
theorem andDpDp (ds : Byte) (dd : Byte) : Statement (.andDpDp ds dd) := ⟨rfl, (by decide : lengthOf 0x29 = 3)⟩
theorem andDpImm (i : Byte) (d : Byte) : Statement (.andDpImm i d) := ⟨rfl, (by decide : lengthOf 0x38 = 3)⟩
theorem eorAImm (i : Byte) : Statement (.eorAImm i) := ⟨rfl, (by decide : lengthOf 0x48 = 2)⟩
theorem eorAIndX : Statement .eorAIndX := ⟨rfl, (by decide : lengthOf 0x46 = 1)⟩
theorem eorADp (d : Byte) : Statement (.eorADp d) := ⟨rfl, (by decide : lengthOf 0x44 = 2)⟩
theorem eorADpX (d : Byte) : Statement (.eorADpX d) := ⟨rfl, (by decide : lengthOf 0x54 = 2)⟩
theorem eorAAbs (a : Addr) : Statement (.eorAAbs a) := ⟨rfl, (by decide : lengthOf 0x45 = 3)⟩
theorem eorAAbsX (a : Addr) : Statement (.eorAAbsX a) := ⟨rfl, (by decide : lengthOf 0x55 = 3)⟩
theorem eorAAbsY (a : Addr) : Statement (.eorAAbsY a) := ⟨rfl, (by decide : lengthOf 0x56 = 3)⟩
theorem eorAIdxInd (d : Byte) : Statement (.eorAIdxInd d) := ⟨rfl, (by decide : lengthOf 0x47 = 2)⟩
theorem eorAIndIdx (d : Byte) : Statement (.eorAIndIdx d) := ⟨rfl, (by decide : lengthOf 0x57 = 2)⟩
theorem eorIndXIndY : Statement .eorIndXIndY := ⟨rfl, (by decide : lengthOf 0x59 = 1)⟩
theorem eorDpDp (ds : Byte) (dd : Byte) : Statement (.eorDpDp ds dd) := ⟨rfl, (by decide : lengthOf 0x49 = 3)⟩
theorem eorDpImm (i : Byte) (d : Byte) : Statement (.eorDpImm i d) := ⟨rfl, (by decide : lengthOf 0x58 = 3)⟩
theorem cmpAImm (i : Byte) : Statement (.cmpAImm i) := ⟨rfl, (by decide : lengthOf 0x68 = 2)⟩
theorem cmpAIndX : Statement .cmpAIndX := ⟨rfl, (by decide : lengthOf 0x66 = 1)⟩
theorem cmpADp (d : Byte) : Statement (.cmpADp d) := ⟨rfl, (by decide : lengthOf 0x64 = 2)⟩
theorem cmpADpX (d : Byte) : Statement (.cmpADpX d) := ⟨rfl, (by decide : lengthOf 0x74 = 2)⟩
theorem cmpAAbs (a : Addr) : Statement (.cmpAAbs a) := ⟨rfl, (by decide : lengthOf 0x65 = 3)⟩
theorem cmpAAbsX (a : Addr) : Statement (.cmpAAbsX a) := ⟨rfl, (by decide : lengthOf 0x75 = 3)⟩
theorem cmpAAbsY (a : Addr) : Statement (.cmpAAbsY a) := ⟨rfl, (by decide : lengthOf 0x76 = 3)⟩
theorem cmpAIdxInd (d : Byte) : Statement (.cmpAIdxInd d) := ⟨rfl, (by decide : lengthOf 0x67 = 2)⟩
theorem cmpAIndIdx (d : Byte) : Statement (.cmpAIndIdx d) := ⟨rfl, (by decide : lengthOf 0x77 = 2)⟩
theorem cmpIndXIndY : Statement .cmpIndXIndY := ⟨rfl, (by decide : lengthOf 0x79 = 1)⟩
theorem cmpDpDp (ds : Byte) (dd : Byte) : Statement (.cmpDpDp ds dd) := ⟨rfl, (by decide : lengthOf 0x69 = 3)⟩
theorem cmpDpImm (i : Byte) (d : Byte) : Statement (.cmpDpImm i d) := ⟨rfl, (by decide : lengthOf 0x78 = 3)⟩
theorem adcAImm (i : Byte) : Statement (.adcAImm i) := ⟨rfl, (by decide : lengthOf 0x88 = 2)⟩
theorem adcAIndX : Statement .adcAIndX := ⟨rfl, (by decide : lengthOf 0x86 = 1)⟩
theorem adcADp (d : Byte) : Statement (.adcADp d) := ⟨rfl, (by decide : lengthOf 0x84 = 2)⟩
theorem adcADpX (d : Byte) : Statement (.adcADpX d) := ⟨rfl, (by decide : lengthOf 0x94 = 2)⟩
theorem adcAAbs (a : Addr) : Statement (.adcAAbs a) := ⟨rfl, (by decide : lengthOf 0x85 = 3)⟩
theorem adcAAbsX (a : Addr) : Statement (.adcAAbsX a) := ⟨rfl, (by decide : lengthOf 0x95 = 3)⟩
theorem adcAAbsY (a : Addr) : Statement (.adcAAbsY a) := ⟨rfl, (by decide : lengthOf 0x96 = 3)⟩
theorem adcAIdxInd (d : Byte) : Statement (.adcAIdxInd d) := ⟨rfl, (by decide : lengthOf 0x87 = 2)⟩
theorem adcAIndIdx (d : Byte) : Statement (.adcAIndIdx d) := ⟨rfl, (by decide : lengthOf 0x97 = 2)⟩
theorem adcIndXIndY : Statement .adcIndXIndY := ⟨rfl, (by decide : lengthOf 0x99 = 1)⟩
theorem adcDpDp (ds : Byte) (dd : Byte) : Statement (.adcDpDp ds dd) := ⟨rfl, (by decide : lengthOf 0x89 = 3)⟩
theorem adcDpImm (i : Byte) (d : Byte) : Statement (.adcDpImm i d) := ⟨rfl, (by decide : lengthOf 0x98 = 3)⟩
theorem sbcAImm (i : Byte) : Statement (.sbcAImm i) := ⟨rfl, (by decide : lengthOf 0xA8 = 2)⟩
theorem sbcAIndX : Statement .sbcAIndX := ⟨rfl, (by decide : lengthOf 0xA6 = 1)⟩
theorem sbcADp (d : Byte) : Statement (.sbcADp d) := ⟨rfl, (by decide : lengthOf 0xA4 = 2)⟩
theorem sbcADpX (d : Byte) : Statement (.sbcADpX d) := ⟨rfl, (by decide : lengthOf 0xB4 = 2)⟩
theorem sbcAAbs (a : Addr) : Statement (.sbcAAbs a) := ⟨rfl, (by decide : lengthOf 0xA5 = 3)⟩
theorem sbcAAbsX (a : Addr) : Statement (.sbcAAbsX a) := ⟨rfl, (by decide : lengthOf 0xB5 = 3)⟩
theorem sbcAAbsY (a : Addr) : Statement (.sbcAAbsY a) := ⟨rfl, (by decide : lengthOf 0xB6 = 3)⟩
theorem sbcAIdxInd (d : Byte) : Statement (.sbcAIdxInd d) := ⟨rfl, (by decide : lengthOf 0xA7 = 2)⟩
theorem sbcAIndIdx (d : Byte) : Statement (.sbcAIndIdx d) := ⟨rfl, (by decide : lengthOf 0xB7 = 2)⟩
theorem sbcIndXIndY : Statement .sbcIndXIndY := ⟨rfl, (by decide : lengthOf 0xB9 = 1)⟩
theorem sbcDpDp (ds : Byte) (dd : Byte) : Statement (.sbcDpDp ds dd) := ⟨rfl, (by decide : lengthOf 0xA9 = 3)⟩
theorem sbcDpImm (i : Byte) (d : Byte) : Statement (.sbcDpImm i d) := ⟨rfl, (by decide : lengthOf 0xB8 = 3)⟩
theorem cmpXImm (i : Byte) : Statement (.cmpXImm i) := ⟨rfl, (by decide : lengthOf 0xC8 = 2)⟩
theorem cmpXDp (d : Byte) : Statement (.cmpXDp d) := ⟨rfl, (by decide : lengthOf 0x3E = 2)⟩
theorem cmpXAbs (a : Addr) : Statement (.cmpXAbs a) := ⟨rfl, (by decide : lengthOf 0x1E = 3)⟩
theorem cmpYImm (i : Byte) : Statement (.cmpYImm i) := ⟨rfl, (by decide : lengthOf 0xAD = 2)⟩
theorem cmpYDp (d : Byte) : Statement (.cmpYDp d) := ⟨rfl, (by decide : lengthOf 0x7E = 2)⟩
theorem cmpYAbs (a : Addr) : Statement (.cmpYAbs a) := ⟨rfl, (by decide : lengthOf 0x5E = 3)⟩
theorem addw (d : Byte) : Statement (.addw d) := ⟨rfl, (by decide : lengthOf 0x7A = 2)⟩
theorem subw (d : Byte) : Statement (.subw d) := ⟨rfl, (by decide : lengthOf 0x9A = 2)⟩
theorem mul : Statement .mul := ⟨rfl, (by decide : lengthOf 0xCF = 1)⟩
theorem div : Statement .div := ⟨rfl, (by decide : lengthOf 0x9E = 1)⟩
theorem cmpw (d : Byte) : Statement (.cmpw d) := ⟨rfl, (by decide : lengthOf 0x5A = 2)⟩
theorem aslA : Statement .aslA := ⟨rfl, (by decide : lengthOf 0x1C = 1)⟩
theorem aslDp (d : Byte) : Statement (.aslDp d) := ⟨rfl, (by decide : lengthOf 0x0B = 2)⟩
theorem aslDpX (d : Byte) : Statement (.aslDpX d) := ⟨rfl, (by decide : lengthOf 0x1B = 2)⟩
theorem aslAbs (a : Addr) : Statement (.aslAbs a) := ⟨rfl, (by decide : lengthOf 0x0C = 3)⟩
theorem lsrA : Statement .lsrA := ⟨rfl, (by decide : lengthOf 0x5C = 1)⟩
theorem lsrDp (d : Byte) : Statement (.lsrDp d) := ⟨rfl, (by decide : lengthOf 0x4B = 2)⟩
theorem lsrDpX (d : Byte) : Statement (.lsrDpX d) := ⟨rfl, (by decide : lengthOf 0x5B = 2)⟩
theorem lsrAbs (a : Addr) : Statement (.lsrAbs a) := ⟨rfl, (by decide : lengthOf 0x4C = 3)⟩
theorem rolA : Statement .rolA := ⟨rfl, (by decide : lengthOf 0x3C = 1)⟩
theorem rolDp (d : Byte) : Statement (.rolDp d) := ⟨rfl, (by decide : lengthOf 0x2B = 2)⟩
theorem rolDpX (d : Byte) : Statement (.rolDpX d) := ⟨rfl, (by decide : lengthOf 0x3B = 2)⟩
theorem rolAbs (a : Addr) : Statement (.rolAbs a) := ⟨rfl, (by decide : lengthOf 0x2C = 3)⟩
theorem rorA : Statement .rorA := ⟨rfl, (by decide : lengthOf 0x7C = 1)⟩
theorem rorDp (d : Byte) : Statement (.rorDp d) := ⟨rfl, (by decide : lengthOf 0x6B = 2)⟩
theorem rorDpX (d : Byte) : Statement (.rorDpX d) := ⟨rfl, (by decide : lengthOf 0x7B = 2)⟩
theorem rorAbs (a : Addr) : Statement (.rorAbs a) := ⟨rfl, (by decide : lengthOf 0x6C = 3)⟩
theorem set1 (b : BitVec 3) (d : Byte) : Statement (.set1 b d) := 
  ⟨rfl, (by decide : ∀ b : BitVec 3, lengthOf (Instr.set1 b 0).opcode = 2) b⟩
theorem clr1 (b : BitVec 3) (d : Byte) : Statement (.clr1 b d) := 
  ⟨rfl, (by decide : ∀ b : BitVec 3, lengthOf (Instr.clr1 b 0).opcode = 2) b⟩
theorem bbs (b : BitVec 3) (d : Byte) (r : Byte) : Statement (.bbs b d r) := 
  ⟨rfl, (by decide : ∀ b : BitVec 3, lengthOf (Instr.bbs b 0 0).opcode = 3) b⟩
theorem bbc (b : BitVec 3) (d : Byte) (r : Byte) : Statement (.bbc b d r) := 
  ⟨rfl, (by decide : ∀ b : BitVec 3, lengthOf (Instr.bbc b 0 0).opcode = 3) b⟩
theorem tset1 (a : Addr) : Statement (.tset1 a) := ⟨rfl, (by decide : lengthOf 0x0E = 3)⟩
theorem tclr1 (a : Addr) : Statement (.tclr1 a) := ⟨rfl, (by decide : lengthOf 0x4E = 3)⟩
theorem or1 (m : Addr) (b : BitVec 3) : Statement (.or1 m b) := ⟨rfl, (by decide : lengthOf 0x0A = 3)⟩
theorem or1Not (m : Addr) (b : BitVec 3) : Statement (.or1Not m b) := ⟨rfl, (by decide : lengthOf 0x2A = 3)⟩
theorem and1 (m : Addr) (b : BitVec 3) : Statement (.and1 m b) := ⟨rfl, (by decide : lengthOf 0x4A = 3)⟩
theorem and1Not (m : Addr) (b : BitVec 3) : Statement (.and1Not m b) := ⟨rfl, (by decide : lengthOf 0x6A = 3)⟩
theorem eor1 (m : Addr) (b : BitVec 3) : Statement (.eor1 m b) := ⟨rfl, (by decide : lengthOf 0x8A = 3)⟩
theorem mov1CMem (m : Addr) (b : BitVec 3) : Statement (.mov1CMem m b) := ⟨rfl, (by decide : lengthOf 0xAA = 3)⟩
theorem mov1MemC (m : Addr) (b : BitVec 3) : Statement (.mov1MemC m b) := ⟨rfl, (by decide : lengthOf 0xCA = 3)⟩
theorem not1 (m : Addr) (b : BitVec 3) : Statement (.not1 m b) := ⟨rfl, (by decide : lengthOf 0xEA = 3)⟩
theorem bpl (r : Byte) : Statement (.bpl r) := ⟨rfl, (by decide : lengthOf 0x10 = 2)⟩
theorem bmi (r : Byte) : Statement (.bmi r) := ⟨rfl, (by decide : lengthOf 0x30 = 2)⟩
theorem bvc (r : Byte) : Statement (.bvc r) := ⟨rfl, (by decide : lengthOf 0x50 = 2)⟩
theorem bvs (r : Byte) : Statement (.bvs r) := ⟨rfl, (by decide : lengthOf 0x70 = 2)⟩
theorem bcc (r : Byte) : Statement (.bcc r) := ⟨rfl, (by decide : lengthOf 0x90 = 2)⟩
theorem bcs (r : Byte) : Statement (.bcs r) := ⟨rfl, (by decide : lengthOf 0xB0 = 2)⟩
theorem bne (r : Byte) : Statement (.bne r) := ⟨rfl, (by decide : lengthOf 0xD0 = 2)⟩
theorem beq (r : Byte) : Statement (.beq r) := ⟨rfl, (by decide : lengthOf 0xF0 = 2)⟩
theorem bra (r : Byte) : Statement (.bra r) := ⟨rfl, (by decide : lengthOf 0x2F = 2)⟩
theorem call (a : Addr) : Statement (.call a) := ⟨rfl, (by decide : lengthOf 0x3F = 3)⟩
theorem ret : Statement .ret := ⟨rfl, (by decide : lengthOf 0x6F = 1)⟩
theorem jmpAbs (a : Addr) : Statement (.jmpAbs a) := ⟨rfl, (by decide : lengthOf 0x5F = 3)⟩
theorem jmpIdxInd (a : Addr) : Statement (.jmpIdxInd a) := ⟨rfl, (by decide : lengthOf 0x1F = 3)⟩
theorem dbnzY (r : Byte) : Statement (.dbnzY r) := ⟨rfl, (by decide : lengthOf 0xFE = 2)⟩
theorem dbnzDp (d : Byte) (r : Byte) : Statement (.dbnzDp d r) := ⟨rfl, (by decide : lengthOf 0x6E = 3)⟩
theorem cbneDp (d : Byte) (r : Byte) : Statement (.cbneDp d r) := ⟨rfl, (by decide : lengthOf 0x2E = 3)⟩
theorem cbneDpX (d : Byte) (r : Byte) : Statement (.cbneDpX d r) := ⟨rfl, (by decide : lengthOf 0xDE = 3)⟩
theorem tcall (n : BitVec 4) : Statement (.tcall n) := 
  ⟨rfl, (by decide : ∀ n : BitVec 4, lengthOf (Instr.tcall n).opcode = 1) n⟩
theorem pcall (u : Byte) : Statement (.pcall u) := ⟨rfl, (by decide : lengthOf 0x4F = 2)⟩
theorem reti : Statement .reti := ⟨rfl, (by decide : lengthOf 0x7F = 1)⟩
theorem clrp : Statement .clrp := ⟨rfl, (by decide : lengthOf 0x20 = 1)⟩
theorem setp : Statement .setp := ⟨rfl, (by decide : lengthOf 0x40 = 1)⟩
theorem clrc : Statement .clrc := ⟨rfl, (by decide : lengthOf 0x60 = 1)⟩
theorem setc : Statement .setc := ⟨rfl, (by decide : lengthOf 0x80 = 1)⟩
theorem notc : Statement .notc := ⟨rfl, (by decide : lengthOf 0xED = 1)⟩
theorem clrv : Statement .clrv := ⟨rfl, (by decide : lengthOf 0xE0 = 1)⟩
theorem ei : Statement .ei := ⟨rfl, (by decide : lengthOf 0xA0 = 1)⟩
theorem di : Statement .di := ⟨rfl, (by decide : lengthOf 0xC0 = 1)⟩
theorem nop : Statement .nop := ⟨rfl, (by decide : lengthOf 0x00 = 1)⟩
theorem sleep : Statement .sleep := ⟨rfl, (by decide : lengthOf 0xEF = 1)⟩
theorem stop : Statement .stop := ⟨rfl, (by decide : lengthOf 0xFF = 1)⟩
theorem brk : Statement .brk := ⟨rfl, (by decide : lengthOf 0x0F = 1)⟩
theorem daa : Statement .daa := ⟨rfl, (by decide : lengthOf 0xDF = 1)⟩
theorem das : Statement .das := ⟨rfl, (by decide : lengthOf 0xBE = 1)⟩
theorem incA : Statement .incA := ⟨rfl, (by decide : lengthOf 0xBC = 1)⟩
theorem incX : Statement .incX := ⟨rfl, (by decide : lengthOf 0x3D = 1)⟩
theorem incY : Statement .incY := ⟨rfl, (by decide : lengthOf 0xFC = 1)⟩
theorem incDp (d : Byte) : Statement (.incDp d) := ⟨rfl, (by decide : lengthOf 0xAB = 2)⟩
theorem incDpX (d : Byte) : Statement (.incDpX d) := ⟨rfl, (by decide : lengthOf 0xBB = 2)⟩
theorem incAbs (a : Addr) : Statement (.incAbs a) := ⟨rfl, (by decide : lengthOf 0xAC = 3)⟩
theorem decA : Statement .decA := ⟨rfl, (by decide : lengthOf 0x9C = 1)⟩
theorem decX : Statement .decX := ⟨rfl, (by decide : lengthOf 0x1D = 1)⟩
theorem decY : Statement .decY := ⟨rfl, (by decide : lengthOf 0xDC = 1)⟩
theorem decDp (d : Byte) : Statement (.decDp d) := ⟨rfl, (by decide : lengthOf 0x8B = 2)⟩
theorem decDpX (d : Byte) : Statement (.decDpX d) := ⟨rfl, (by decide : lengthOf 0x9B = 2)⟩
theorem decAbs (a : Addr) : Statement (.decAbs a) := ⟨rfl, (by decide : lengthOf 0x8C = 3)⟩
theorem incw (d : Byte) : Statement (.incw d) := ⟨rfl, (by decide : lengthOf 0x3A = 2)⟩
theorem decw (d : Byte) : Statement (.decw d) := ⟨rfl, (by decide : lengthOf 0x1A = 2)⟩

end Sys2Proof.Laws.Encoding
end

