-- ==== Sys2Proof/Tests/Slice0.lean ====
section
/-! SUPPORT. The model's own tests: the checks of WellFormed,
  decoding and encoding on words written out from the spec's map (30_encoding.md
R66 to R70), single steps on the vectors of 95_test_vectors.md, and for every statement with hypotheses a witness. -/

namespace Sys2Proof.Tests

open Sys2Proof Sys2Proof.Machine

/-! ### Well-formedness: the 13-bit address of a memory-bit operand (20_memory.md R56) -/

/-- An address above 0x1FFF does not fit the operand: each of the eight checks refuses it. -/
theorem test_wellFormed_refuses :
    [Instr.or1 0x2000 0, .or1Not 0x2000 1, .and1 0x2000 2, .and1Not 0x2000 3, .eor1 0x2000 4, .mov1CMem 0x2000 5,
      .mov1MemC 0x2000 6, .not1 0xFFFF 7].all (fun i => i.wellFormed == false) = true := by decide

/-- The largest address that fits is accepted by each. -/
theorem test_wellFormed_accepts :
    [Instr.or1 0x1FFF 0, .or1Not 0x1FFF 1, .and1 0x1FFF 2, .and1Not 0x1FFF 3, .eor1 0x1FFF 4, .mov1CMem 0x1FFF 5,
      .mov1MemC 0x1FFF 6, .not1 0x1FFF 7, .movAAbs 0xFFFF].all Instr.wellFormed = true := by decide

/-! ### Decoding and encoding -/

/-- The bytes decode to the instruction with nothing left over, and the instruction encodes to the bytes. -/
def decodesTo (p : List Byte × Instr) : Bool :=
  (decode p.1).toOption == some (p.2, []) && encode p.2 == p.1 && p.2.wellFormed

/-- Decoding and encoding, data movement (40_data_movement.md R74 to R127). -/
theorem test_decode_mov_1 :
    [([0xE8, 0x9A], .movAImm 0x9A), ([0xE6], .movAIndX), ([0xBF], .movAIndXInc), ([0xE4, 0x20], .movADp 0x20),
      ([0xF4, 0x20], .movADpX 0x20), ([0xE5, 0x34, 0x12], .movAAbs 0x1234), ([0xF5, 0x34, 0x12], .movAAbsX 0x1234),
      ([0xF6, 0x34, 0x12], .movAAbsY 0x1234), ([0xE7, 0x20], .movAIdxInd 0x20), ([0xF7, 0x20], .movAIndIdx 0x20),
      ([0xCD, 0x9A], .movXImm 0x9A), ([0xF8, 0x20], .movXDp 0x20), ([0xF9, 0x20], .movXDpY 0x20),
      ([0xE9, 0x34, 0x12], .movXAbs 0x1234), ([0x8D, 0x9A], .movYImm 0x9A), ([0xEB, 0x20], .movYDp 0x20),
      ([0xFB, 0x20], .movYDpX 0x20), ([0xEC, 0x34, 0x12], .movYAbs 0x1234), ([0xC6], .movIndXA), ([0xAF], .movIndXIncA),
      ([0xC4, 0x20], .movDpA 0x20), ([0xD4, 0x20], .movDpXA 0x20), ([0xC5, 0x34, 0x12], .movAbsA 0x1234),
      ([0xD5, 0x34, 0x12], .movAbsXA 0x1234), ([0xD6, 0x34, 0x12], .movAbsYA 0x1234), ([0xC7, 0x20], .movIdxIndA 0x20),
      ([0xD7, 0x20], .movIndIdxA 0x20), ([0xD8, 0x20], .movDpX 0x20)].all decodesTo = true := by decide

/-- Decoding and encoding, data movement (40_data_movement.md R74 to R127). -/
theorem test_decode_mov_2 :
    [([0xD9, 0x20], .movDpYX 0x20), ([0xC9, 0x34, 0x12], .movAbsX 0x1234), ([0xCB, 0x20], .movDpY 0x20),
      ([0xDB, 0x20], .movDpXY 0x20), ([0xCC, 0x34, 0x12], .movAbsY 0x1234), ([0x7D], .movAX), ([0xDD], .movAY),
      ([0x5D], .movXA), ([0xFD], .movYA), ([0x9D], .movXSp), ([0xBD], .movSpX), ([0xFA, 0x21, 0x20], .movDpDp 0x21 0x20),
      ([0x8F, 0x9A, 0x20], .movDpImm 0x9A 0x20), ([0xBA, 0x20], .movwYADp 0x20), ([0xDA, 0x20], .movwDpYA 0x20),
      ([0x9F], .xcn), ([0x2D], .pushA), ([0x4D], .pushX), ([0x6D], .pushY), ([0x0D], .pushPsw), ([0xAE], .popA),
      ([0xCE], .popX), ([0xEE], .popY), ([0x8E], .popPsw)].all decodesTo = true := by decide

/-- Decoding and encoding, 8-bit ALU (41_alu8.md R128 to R211). -/
theorem test_decode_alu_1 :
    [([0x08, 0x9A], .orAImm 0x9A), ([0x06], .orAIndX), ([0x04, 0x20], .orADp 0x20), ([0x14, 0x20], .orADpX 0x20),
      ([0x05, 0x34, 0x12], .orAAbs 0x1234), ([0x15, 0x34, 0x12], .orAAbsX 0x1234), ([0x16, 0x34, 0x12], .orAAbsY 0x1234),
      ([0x07, 0x20], .orAIdxInd 0x20), ([0x17, 0x20], .orAIndIdx 0x20), ([0x19], .orIndXIndY),
      ([0x09, 0x21, 0x20], .orDpDp 0x21 0x20), ([0x18, 0x9A, 0x20], .orDpImm 0x9A 0x20), ([0x28, 0x9A], .andAImm 0x9A),
      ([0x26], .andAIndX), ([0x24, 0x20], .andADp 0x20), ([0x34, 0x20], .andADpX 0x20),
      ([0x25, 0x34, 0x12], .andAAbs 0x1234), ([0x35, 0x34, 0x12], .andAAbsX 0x1234),
      ([0x36, 0x34, 0x12], .andAAbsY 0x1234), ([0x27, 0x20], .andAIdxInd 0x20), ([0x37, 0x20], .andAIndIdx 0x20),
      ([0x39], .andIndXIndY), ([0x29, 0x21, 0x20], .andDpDp 0x21 0x20), ([0x38, 0x9A, 0x20], .andDpImm 0x9A 0x20),
      ([0x48, 0x9A], .eorAImm 0x9A), ([0x46], .eorAIndX), ([0x44, 0x20], .eorADp 0x20), ([0x54, 0x20],
        .eorADpX 0x20)].all decodesTo = true := by decide

/-- Decoding and encoding, 8-bit ALU (41_alu8.md R128 to R211). -/
theorem test_decode_alu_2 :
    [([0x45, 0x34, 0x12], .eorAAbs 0x1234), ([0x55, 0x34, 0x12], .eorAAbsX 0x1234),
      ([0x56, 0x34, 0x12], .eorAAbsY 0x1234), ([0x47, 0x20], .eorAIdxInd 0x20), ([0x57, 0x20], .eorAIndIdx 0x20),
      ([0x59], .eorIndXIndY), ([0x49, 0x21, 0x20], .eorDpDp 0x21 0x20), ([0x58, 0x9A, 0x20], .eorDpImm 0x9A 0x20),
      ([0x68, 0x9A], .cmpAImm 0x9A), ([0x66], .cmpAIndX), ([0x64, 0x20], .cmpADp 0x20), ([0x74, 0x20], .cmpADpX 0x20),
      ([0x65, 0x34, 0x12], .cmpAAbs 0x1234), ([0x75, 0x34, 0x12], .cmpAAbsX 0x1234),
      ([0x76, 0x34, 0x12], .cmpAAbsY 0x1234), ([0x67, 0x20], .cmpAIdxInd 0x20), ([0x77, 0x20], .cmpAIndIdx 0x20),
      ([0x79], .cmpIndXIndY), ([0x69, 0x21, 0x20], .cmpDpDp 0x21 0x20), ([0x78, 0x9A, 0x20], .cmpDpImm 0x9A 0x20),
      ([0x88, 0x9A], .adcAImm 0x9A), ([0x86], .adcAIndX), ([0x84, 0x20], .adcADp 0x20), ([0x94, 0x20], .adcADpX 0x20),
      ([0x85, 0x34, 0x12], .adcAAbs 0x1234), ([0x95, 0x34, 0x12], .adcAAbsX 0x1234),
      ([0x96, 0x34, 0x12], .adcAAbsY 0x1234), ([0x87, 0x20], .adcAIdxInd 0x20)].all decodesTo = true := by decide

/-- Decoding and encoding, 8-bit ALU (41_alu8.md R128 to R211). -/
theorem test_decode_alu_3 :
    [([0x97, 0x20], .adcAIndIdx 0x20), ([0x99], .adcIndXIndY), ([0x89, 0x21, 0x20], .adcDpDp 0x21 0x20),
      ([0x98, 0x9A, 0x20], .adcDpImm 0x9A 0x20), ([0xA8, 0x9A], .sbcAImm 0x9A), ([0xA6], .sbcAIndX),
      ([0xA4, 0x20], .sbcADp 0x20), ([0xB4, 0x20], .sbcADpX 0x20), ([0xA5, 0x34, 0x12], .sbcAAbs 0x1234),
      ([0xB5, 0x34, 0x12], .sbcAAbsX 0x1234), ([0xB6, 0x34, 0x12], .sbcAAbsY 0x1234), ([0xA7, 0x20], .sbcAIdxInd 0x20),
      ([0xB7, 0x20], .sbcAIndIdx 0x20), ([0xB9], .sbcIndXIndY), ([0xA9, 0x21, 0x20], .sbcDpDp 0x21 0x20),
      ([0xB8, 0x9A, 0x20], .sbcDpImm 0x9A 0x20), ([0xC8, 0x9A], .cmpXImm 0x9A), ([0x3E, 0x20], .cmpXDp 0x20),
      ([0x1E, 0x34, 0x12], .cmpXAbs 0x1234), ([0xAD, 0x9A], .cmpYImm 0x9A), ([0x7E, 0x20], .cmpYDp 0x20),
      ([0x5E, 0x34, 0x12], .cmpYAbs 0x1234)].all decodesTo = true := by decide

/-- Decoding and encoding, 16-bit arithmetic (42_arith16.md). -/
theorem test_decode_arith16 :
    [([0x7A, 0x20], .addw 0x20), ([0x9A, 0x20], .subw 0x20), ([0xCF], .mul), ([0x9E], .div), ([0x5A, 0x20],
      .cmpw 0x20)].all decodesTo = true := by decide

/-- Decoding and encoding, shifts (43_shift_rotate.md). -/
theorem test_decode_shift :
    [([0x1C], .aslA), ([0x0B, 0x20], .aslDp 0x20), ([0x1B, 0x20], .aslDpX 0x20), ([0x0C, 0x34, 0x12], .aslAbs 0x1234),
      ([0x5C], .lsrA), ([0x4B, 0x20], .lsrDp 0x20), ([0x5B, 0x20], .lsrDpX 0x20), ([0x4C, 0x34, 0x12], .lsrAbs 0x1234),
      ([0x3C], .rolA), ([0x2B, 0x20], .rolDp 0x20), ([0x3B, 0x20], .rolDpX 0x20), ([0x2C, 0x34, 0x12], .rolAbs 0x1234),
      ([0x7C], .rorA), ([0x6B, 0x20], .rorDp 0x20), ([0x7B, 0x20], .rorDpX 0x20), ([0x6C, 0x34, 0x12],
        .rorAbs 0x1234)].all decodesTo = true := by decide

/-- Decoding and encoding, bit operations (44_bit_ops.md; R68 for the bit number). -/
theorem test_decode_bit :
    [([0x02, 0x20], .set1 0 0x20), ([0x62, 0x20], .set1 3 0x20), ([0xE2, 0x20], .set1 7 0x20),
      ([0x12, 0x20], .clr1 0 0x20), ([0x72, 0x20], .clr1 3 0x20), ([0xF2, 0x20], .clr1 7 0x20),
      ([0x03, 0x20, 0xFB], .bbs 0 0x20 0xFB), ([0x63, 0x20, 0xFB], .bbs 3 0x20 0xFB),
      ([0xE3, 0x20, 0xFB], .bbs 7 0x20 0xFB), ([0x13, 0x20, 0xFB], .bbc 0 0x20 0xFB),
      ([0x73, 0x20, 0xFB], .bbc 3 0x20 0xFB), ([0xF3, 0x20, 0xFB], .bbc 7 0x20 0xFB), ([0x0E, 0x34, 0x12], .tset1 0x1234),
      ([0x4E, 0x34, 0x12], .tclr1 0x1234), ([0x0A, 0x34, 0xA2], .or1 0x0234 5), ([0x2A, 0x34, 0xA2], .or1Not 0x0234 5),
      ([0x4A, 0x34, 0xA2], .and1 0x0234 5), ([0x6A, 0x34, 0xA2], .and1Not 0x0234 5), ([0x8A, 0x34, 0xA2], .eor1 0x0234 5),
      ([0xAA, 0x34, 0xA2], .mov1CMem 0x0234 5), ([0xCA, 0x34, 0xA2], .mov1MemC 0x0234 5),
      ([0xEA, 0x34, 0xA2], .not1 0x0234 5)].all decodesTo = true := by decide

/-- Decoding and encoding, branches (45_branches.md). -/
theorem test_decode_branch :
    [([0x10, 0xFB], .bpl 0xFB), ([0x30, 0xFB], .bmi 0xFB), ([0x50, 0xFB], .bvc 0xFB), ([0x70, 0xFB], .bvs 0xFB),
      ([0x90, 0xFB], .bcc 0xFB), ([0xB0, 0xFB], .bcs 0xFB), ([0xD0, 0xFB], .bne 0xFB), ([0xF0, 0xFB], .beq 0xFB),
      ([0x2F, 0xFB], .bra 0xFB)].all decodesTo = true := by decide

/-- Decoding and encoding, control flow (46_control_flow.md; R68 for TCALL). -/
theorem test_decode_control :
    [([0x3F, 0x34, 0x12], .call 0x1234), ([0x6F], .ret), ([0x5F, 0x34, 0x12], .jmpAbs 0x1234),
      ([0x1F, 0x34, 0x12], .jmpIdxInd 0x1234), ([0xFE, 0xFB], .dbnzY 0xFB), ([0x6E, 0x20, 0xFB], .dbnzDp 0x20 0xFB),
      ([0x2E, 0x20, 0xFB], .cbneDp 0x20 0xFB), ([0xDE, 0x20, 0xFB], .cbneDpX 0x20 0xFB), ([0x01], .tcall 0),
      ([0x41], .tcall 4), ([0xF1], .tcall 15), ([0x4F, 0x40], .pcall 0x40), ([0x7F],
        .reti)].all decodesTo = true := by decide

/-- Decoding and encoding, flags and system (47_flags_misc.md). -/
theorem test_decode_flags :
    [([0x20], .clrp), ([0x40], .setp), ([0x60], .clrc), ([0x80], .setc), ([0xED], .notc), ([0xE0], .clrv), ([0xA0], .ei),
      ([0xC0], .di), ([0x00], .nop), ([0xEF], .sleep), ([0xFF], .stop), ([0x0F], .brk), ([0xDF], .daa), ([0xBE],
        .das)].all decodesTo = true := by decide

/-- Decoding and encoding, increment and decrement (48_inc_dec.md). -/
theorem test_decode_incdec :
    [([0xBC], .incA), ([0x3D], .incX), ([0xFC], .incY), ([0xAB, 0x20], .incDp 0x20), ([0xBB, 0x20], .incDpX 0x20),
      ([0xAC, 0x34, 0x12], .incAbs 0x1234), ([0x9C], .decA), ([0x1D], .decX), ([0xDC], .decY),
      ([0x8B, 0x20], .decDp 0x20), ([0x9B, 0x20], .decDpX 0x20), ([0x8C, 0x34, 0x12], .decAbs 0x1234),
      ([0x3A, 0x20], .incw 0x20), ([0x1A, 0x20], .decw 0x20)].all decodesTo = true := by decide

/-- A list that ends inside an instruction, and the empty list, are rejected by name (R65). -/
theorem test_decode_rejects :
    (match decode [] with | .error .empty => true | _ => false) = true ∧
      (match decode [0xE4] with | .error (.truncated op) => op == 0xE4 | _ => false) = true ∧
      (match decode [0x3F, 0x34] with | .error (.truncated op) => op == 0x3F | _ => false) = true := by decide

/-- The bits of a table row, the first byte lowest; operand bits above `nbits` are zeros. -/
theorem test_decode_table_word :
    decodeTableWord 24 0x12343F = some (.call 0x1234) ∧ decodeTableWord 8 0x3F = some (.call 0) ∧
      decodeTableWord 16 0x20E4 = some (.movADp 0x20) := by decide

/-! ### Single steps: vectors of 95_test_vectors.md -/

/-- RAM with these bytes, 0 elsewhere. -/
def bytesAt (l : List (Addr × Byte)) : Memory := l.foldl (fun m c => m.write c.1 c.2) []

/-- The standard start state of 95_test_vectors.md. -/
def standard : State := { State.reset with pc := 0x0200, a := 0x3C, x := 0x10, y := 0x02, sp := 0xEF }

/-- The state with the bytes of an instruction laid out from its pc on. -/
def placed (s : State) : List Byte → State
  | b0 :: b1 :: b2 :: _ => { s with ram := ((s.ram.write s.pc b0).write (s.pc + 1) b1).write (s.pc + 2) b2 }
  | [b0, b1] => { s with ram := (s.ram.write s.pc b0).write (s.pc + 1) b1 }
  | [b0] => { s with ram := s.ram.write s.pc b0 }
  | [] => s

/-- The state after one step with the bytes at the pc. -/
def stepped (s : State) (bytes : List Byte) : Option State :=
  match step (placed s bytes) with
  | .next t => some t
  | .fault _ | .refused _ => none

/-- ADC A,#$01: doc00's second ADC example; C = 0 (95_test_vectors.md, 41_alu8.md R182). -/
theorem test_adcAImm :
    (stepped { standard with a := 0x7F } [0x88, 0x01]).map
      (fun t => (t.a, t.psw.n, t.psw.v, t.psw.z, t.psw.c)) =
      some (0x80, true, true, false, false) := by decide

/-- CMP A,#$3C: doc00's CMP example; A unchanged, V, H unchanged (95_test_vectors.md, 41_alu8.md R170). -/
theorem test_cmpAImm :
    (stepped { standard with a := 0x3C } [0x68, 0x3C]).map
      (fun t => (t.pc, t.psw, t.cycle)) =
      some (0x0202, Psw.ofByte 0x03, 2) := by decide

/-- MOV A,$FD: first read returns the counter and clears it (95_test_vectors.md, 40_data_movement.md R79). -/
theorem test_movADp :
    (stepped 
        { standard with
          timers := standard.timers.set 0 { enabled := true, nextTick := 256, pre := 0, counter := 5, divisor := 1 } }
        [0xE4, 0xFD]).map
      (fun t => (t.a, t.psw, (t.timers.get 0).nextTick, (t.timers.get 0).counter, (t.timers.get 0).divisor)) =
      some (0x05, Psw.ofByte 0x00, 256, 0, 1) := by decide

/-- POP A: POP: SP + 1, then load; no flag (A = 0x00 leaves Z = 0) (95_test_vectors.md, 40_data_movement.md R124). -/
theorem test_popA :
    (stepped { standard with sp := 0xEE } [0xAE]).map
      (fun t => (t.a, t.sp, t.pc, t.psw, t.cycle)) =
      some (0x00, 0xEF, 0x0201, Psw.ofByte 0x00, 4) := by decide

/-- CALL $1234: CALL: push 0x10 at 0x01EF, 0x03 at 0x01EE (95_test_vectors.md, 46_control_flow.md R261). -/
theorem test_call :
    (stepped { standard with pc := 0x1000 } [0x3F, 0x34, 0x12]).map
      (fun t => (t.sp, t.psw, t.ram.read 0x01EF, t.ram.read 0x01EE, t.cycle)) =
      some (0xED, Psw.ofByte 0x00, 0x10, 0x03, 8) := by decide

/-- RET: RET from the state above: pc = 0x1003, SP back to 0xEF (95_test_vectors.md, 46_control_flow.md R262). -/
theorem test_ret :
    (stepped 
        { standard with
          sp := 0xED, pc := 0x1234, ram := bytesAt [(0x01EE, 0x03), (0x01EF, 0x10)] }
        [0x6F]).map
      (fun t => (t.sp, t.pc, t.psw, t.cycle)) =
      some (0xEF, 0x1003, Psw.ofByte 0x00, 5) := by decide

/-- BBS $10.0,$2008: taken (95_test_vectors.md, 44_bit_ops.md R238). -/
theorem test_bbs :
    (stepped { standard with pc := 0x2000, ram := bytesAt [(0x0010, 0x01)] } [0x03, 0x10, 0x05]).map
      (fun t => (t.pc, t.psw, t.cycle)) =
      some (0x2008, Psw.ofByte 0x00, 7) := by decide

/-- MOV A,#$80: load sets N (95_test_vectors.md, 40_data_movement.md R76). -/
theorem test_movAImm :
    (stepped standard [0xE8, 0x80]).map
      (fun t => (t.a, t.pc, t.psw, t.cycle)) =
      some (0x80, 0x0202, Psw.ofByte 0x80, 2) := by decide

/-- MOV A,$20: P = 1: direct page is 0x0100 to 0x01FF (95_test_vectors.md, 40_data_movement.md R79). -/
theorem test_movADp_2 :
    (stepped 
        { standard with
          psw := Psw.ofByte 0x20, ram := bytesAt [(0x0020, 0x11), (0x0120, 0x7E)] }
        [0xE4, 0x20]).map
      (fun t => (t.a, t.pc, t.psw, t.cycle)) =
      some (0x7E, 0x0202, Psw.ofByte 0x20, 3) := by decide

/-- MOV A,$F8+X: d + X wraps in the page: 0xF8 + 0x10 = offset 0x08 (95_test_vectors.md, 40_data_movement.md R80). -/
theorem test_movADpX :
    (stepped { standard with ram := bytesAt [(0x0008, 0x99), (0x0108, 0x77)] } [0xF4, 0xF8]).map
      (fun t => (t.a, t.pc, t.psw, t.cycle)) =
      some (0x99, 0x0202, Psw.ofByte 0x80, 4) := by decide

/-- MOV A,(X)+: (X)+: X = 0xFF wraps to 0x00; address used is 0x00FF (timer 2 counter,
read and cleared) (95_test_vectors.md, 40_data_movement.md R78). -/
theorem test_movAIndXInc :
    (stepped 
        { standard with
          x := 0xFF
          timers := standard.timers.set 2 { enabled := true, nextTick := 32, pre := 0, counter := 3, divisor := 1 } }
        [0xBF]).map
      (fun t => (t.a, t.x, t.psw, (t.timers.get 2).nextTick, (t.timers.get 2).counter, (t.timers.get 2).divisor)) =
      some (0x03, 0x00, Psw.ofByte 0x00, 32, 0, 1) := by decide

/-- MOV A,[$30+X]: pointer at offset d + X (95_test_vectors.md, 40_data_movement.md R84). -/
theorem test_movAIdxInd :
    (stepped { standard with ram := bytesAt [(0x0040, 0x34), (0x0041, 0x12), (0x1234, 0xAB)] } [0xE7, 0x30]).map
      (fun t => (t.a, t.pc, t.psw, t.cycle)) =
      some (0xAB, 0x0202, Psw.ofByte 0x80, 6) := by decide

/-- MOV A,[$30]+Y: pointer at d, then + Y with carry into the high byte (95_test_vectors.md, 40_data_movement.md R85). -/
theorem test_movAIndIdx :
    (stepped 
        { standard with
          y := 0x02, ram := bytesAt [(0x0030, 0xFF), (0x0031, 0x12), (0x1301, 0xCD)] }
        [0xF7, 0x30]).map
      (fun t => (t.a, t.pc, t.psw, t.cycle)) =
      some (0xCD, 0x0202, Psw.ofByte 0x80, 6) := by decide

/-- MOV A,$FFF8+X: a + X wraps at 65536: 0xFFF8 + 0x10 = 0x0008 (95_test_vectors.md, 40_data_movement.md R82). -/
theorem test_movAAbsX :
    (stepped { standard with ram := bytesAt [(0x0008, 0x42)] } [0xF5, 0xF8, 0xFF]).map
      (fun t => (t.a, t.pc, t.psw, t.cycle)) =
      some (0x42, 0x0203, Psw.ofByte 0x00, 5) := by decide

/-- MOV $F2,A: store to 0x00F2 selects the DSP register (masked to 7 bits) and stores to RAM (95_test_vectors.md,
40_data_movement.md R96). -/
theorem test_movDpA :
    (stepped { standard with a := 0xCC } [0xC4, 0xF2]).map
      (fun t => (t.pc, t.psw, t.ram.read 0x00F2, t.dspAddr, t.cycle)) =
      some (0x0202, Psw.ofByte 0x00, 0xCC, 0x4C, 4) := by decide

/-- MOV $F3,A: store to ENDX zeroes it whatever the value (95_test_vectors.md, 40_data_movement.md R96). -/
theorem test_movDpA_2 :
    (stepped { standard with a := 0x01, dspAddr := 0x7C, dsp := standard.dsp.setReg 0x7C 0xFF } [0xC4, 0xF3]).map
      (fun t => (t.pc, t.psw, t.dsp.reg 0x7C, t.cycle)) =
      some (0x0202, Psw.ofByte 0x00, 0x00, 4) := by decide

/-- MOV $20,$21: byte 1 is the source offset, byte 2 the destination (95_test_vectors.md, 40_data_movement.md R115). -/
theorem test_movDpDp :
    (stepped { standard with ram := bytesAt [(0x0020, 0x11), (0x0021, 0xEE)] } [0xFA, 0x21, 0x20]).map
      (fun t => (t.pc, t.psw, t.ram.read 0x0020, t.cycle)) =
      some (0x0203, Psw.ofByte 0x00, 0xEE, 5) := by decide

/-- MOV $20,#$9A: byte 1 is the immediate, byte 2 the offset (95_test_vectors.md, 40_data_movement.md R116). -/
theorem test_movDpImm :
    (stepped standard [0x8F, 0x9A, 0x20]).map
      (fun t => (t.pc, t.psw, t.ram.read 0x0020, t.cycle)) =
      some (0x0203, Psw.ofByte 0x00, 0x9A, 5) := by decide

/-- MOV $F1,#$01: writes Control: timer 0 enabled with the divisor latched from 0x00FA (95_test_vectors.md,
40_data_movement.md R116). -/
theorem test_movDpImm_2 :
    (stepped { standard with ram := bytesAt [(0x00FA, 0x10)] } [0x8F, 0x01, 0xF1]).map
      (fun t => (t.psw, t.ram.read 0x00F1, (t.timers.get 0).nextTick, (t.timers.get 0).counter, (t.timers.get 0).divisor)) =
      some (Psw.ofByte 0x00, 0x01, 256, 0, 16) := by decide

/-- MOV SP,X: MOV SP,X sets nothing (X = 0x00 leaves Z = 0) (95_test_vectors.md, 40_data_movement.md R114). -/
theorem test_movSpX :
    (stepped { standard with x := 0x00 } [0xBD]).map
      (fun t => (t.sp, t.pc, t.psw, t.cycle)) =
      some (0x00, 0x0201, Psw.ofByte 0x00, 2) := by decide

/-- MOVW YA,$FF: MOVW at offset 0xFF, linear: high byte from 0x0100 (95_test_vectors.md, 40_data_movement.md R117). -/
theorem test_movwYADp :
    (stepped 
        { standard with
          timers := standard.timers.set 2 { enabled := true, nextTick := 32, pre := 0, counter := 9, divisor := 1 }
          ram := bytesAt [(0x0000, 0x33), (0x0100, 0x22)] }
        [0xBA, 0xFF]).map
      (fun t => (t.a, t.y, t.psw, (t.timers.get 2).nextTick, (t.timers.get 2).counter, (t.timers.get 2).divisor)) =
      some (0x09, 0x22, Psw.ofByte 0x00, 32, 0, 1) := by decide

/-- MOVW YA,$FF: the same with page: high byte from 0x0000 (95_test_vectors.md, 40_data_movement.md R117). -/
theorem test_movwYADp_2 :
    (stepped 
        { standard with
          params := { Params.default with dpWordWrap := .page }
          timers := standard.timers.set 2 { enabled := true, nextTick := 32, pre := 0, counter := 9, divisor := 1 }
          ram := bytesAt [(0x0000, 0x33), (0x0100, 0x22)] }
        [0xBA, 0xFF]).map
      (fun t => (t.a, t.y, t.psw, (t.timers.get 2).nextTick, (t.timers.get 2).counter, (t.timers.get 2).divisor)) =
      some (0x09, 0x33, Psw.ofByte 0x00, 32, 0, 1) := by decide

/-- MOVW $20,YA: MOVW store: low byte first, no flags, no read (95_test_vectors.md, 40_data_movement.md R118). -/
theorem test_movwDpYA :
    (stepped { standard with a := 0x34, y := 0x12 } [0xDA, 0x20]).map
      (fun t => (t.pc, t.psw, t.ram.read 0x0020, t.ram.read 0x0021, t.cycle)) =
      some (0x0202, Psw.ofByte 0x00, 0x34, 0x12, 5) := by decide

/-- XCN A: nibble swap (95_test_vectors.md, 40_data_movement.md R119). -/
theorem test_xcn :
    (stepped standard [0x9F]).map
      (fun t => (t.a, t.pc, t.psw, t.cycle)) =
      some (0xC3, 0x0201, Psw.ofByte 0x80, 5) := by decide

/-- PUSH PSW: PUSH PSW stores the byte N V P B H I Z C (95_test_vectors.md, 40_data_movement.md R123). -/
theorem test_pushPsw :
    (stepped { standard with psw := Psw.ofByte 0xA3 } [0x0D]).map
      (fun t => (t.sp, t.pc, t.psw, t.ram.read 0x01EF, t.cycle)) =
      some (0xEE, 0x0201, Psw.ofByte 0xA3, 0xA3, 4) := by decide

/-- POP PSW: POP PSW loads all eight flags (P takes effect at the next instruction) (95_test_vectors.md,
40_data_movement.md R127). -/
theorem test_popPsw :
    (stepped { standard with sp := 0xEE, ram := bytesAt [(0x01EF, 0xFF)] } [0x8E]).map
      (fun t => (t.sp, t.pc, t.psw, t.cycle)) =
      some (0xEF, 0x0201, Psw.ofByte 0xFF, 4) := by decide

/-- PUSH X: PUSH with SP = 0x00 stores at 0x0100 and wraps SP to 0xFF (95_test_vectors.md, 40_data_movement.md R121). -/
theorem test_pushX :
    (stepped { standard with sp := 0x00 } [0x4D]).map
      (fun t => (t.sp, t.pc, t.psw, t.ram.read 0x0100, t.cycle)) =
      some (0xFF, 0x0201, Psw.ofByte 0x00, 0x10, 4) := by decide

/-- POP Y: POP with SP = 0xFF wraps to 0x00 and reads 0x0100 (95_test_vectors.md, 40_data_movement.md R126). -/
theorem test_popY :
    (stepped { standard with sp := 0xFF, ram := bytesAt [(0x0100, 0x66)] } [0xEE]).map
      (fun t => (t.y, t.sp, t.pc, t.psw, t.cycle)) =
      some (0x66, 0x00, 0x0201, Psw.ofByte 0x00, 4) := by decide

/-- ADC A,#$80: 0x80 + 0x80: V = 1, C = 1, Z = 1 (95_test_vectors.md, 41_alu8.md R182). -/
theorem test_adcAImm_2 :
    (stepped { standard with a := 0x80 } [0x88, 0x80]).map
      (fun t => (t.a, t.psw.n, t.psw.v, t.psw.z, t.psw.c)) =
      some (0x00, false, true, true, true) := by decide

/-- ADC $20,$21: memory destination: the sum goes to [dd], A untouched (95_test_vectors.md, 41_alu8.md R192). -/
theorem test_adcDpDp :
    (stepped { standard with ram := bytesAt [(0x0020, 0xFF), (0x0021, 0x01)] } [0x89, 0x21, 0x20]).map
      (fun t => (t.psw.n, t.psw.v, t.psw.z, t.psw.c, t.ram.read 0x0020)) =
      some (false, false, true, true, 0x00) := by decide

/-- ADC (X),(Y): (X),(Y): source [dp(Y)], destination [dp(X)] (95_test_vectors.md, 41_alu8.md R191). -/
theorem test_adcIndXIndY :
    (stepped { standard with x := 0x30, y := 0x31, ram := bytesAt [(0x0030, 0x70), (0x0031, 0x10)] } [0x99]).map
      (fun t => (t.psw.n, t.psw.v, t.psw.z, t.psw.c, t.ram.read 0x0030)) =
      some (true, true, false, false, 0x80) := by decide

/-- ADC $20,#$05: $dp,#imm (95_test_vectors.md, 41_alu8.md R193). -/
theorem test_adcDpImm :
    (stepped { standard with psw := Psw.ofByte 0x01, ram := bytesAt [(0x0020, 0x0A)] } [0x98, 0x05, 0x20]).map
      (fun t => (t.psw.n, t.psw.v, t.psw.z, t.psw.c, t.ram.read 0x0020)) =
      some (false, false, false, false, 0x10) := by decide

/-- SBC A,#$B0: SBC with borrow out: C = 0; signed overflow: V = 1 and H <- V (95_test_vectors.md, 41_alu8.md R194). -/
theorem test_sbcAImm :
    (stepped { standard with a := 0x50, psw := Psw.ofByte 0x01 } [0xA8, 0xB0]).map
      (fun t => (t.a, t.pc, t.psw, t.cycle)) =
      some (0xA0, 0x0202, Psw.ofByte 0xC8, 2) := by decide

/-- SBC A,#$00: SBC with C = 0 subtracts one more (95_test_vectors.md, 41_alu8.md R194). -/
theorem test_sbcAImm_2 :
    (stepped { standard with a := 0x00 } [0xA8, 0x00]).map
      (fun t => (t.a, t.pc, t.psw, t.cycle)) =
      some (0xFF, 0x0202, Psw.ofByte 0x80, 2) := by decide

/-- CMP A,#$3D: CMP: A < M gives C = 0, N from the difference (95_test_vectors.md, 41_alu8.md R170). -/
theorem test_cmpAImm_2 :
    (stepped { standard with a := 0x3C } [0x68, 0x3D]).map
      (fun t => (t.pc, t.psw, t.cycle)) =
      some (0x0202, Psw.ofByte 0x80, 2) := by decide

/-- CMP X,#$10: CMP X (95_test_vectors.md, 41_alu8.md R206). -/
theorem test_cmpXImm :
    (stepped standard [0xC8, 0x10]).map
      (fun t => (t.pc, t.psw, t.cycle)) =
      some (0x0202, Psw.ofByte 0x03, 2) := by decide

/-- CMP $20,$21: CMP of two memory bytes: [dd] - [ds], nothing written (95_test_vectors.md, 41_alu8.md R180). -/
theorem test_cmpDpDp :
    (stepped { standard with ram := bytesAt [(0x0020, 0x09), (0x0021, 0x05)] } [0x69, 0x21, 0x20]).map
      (fun t => (t.pc, t.psw, t.cycle)) =
      some (0x0203, Psw.ofByte 0x01, 6) := by decide

/-- CMP A,$FE: CMP with a timer counter clears it (95_test_vectors.md, 41_alu8.md R172). -/
theorem test_cmpADp :
    (stepped 
        { standard with
          a := 0x02
          timers := standard.timers.set 1 { enabled := true, nextTick := 256, pre := 0, counter := 2, divisor := 1 } }
        [0x64, 0xFE]).map
      (fun t => (t.psw, (t.timers.get 1).nextTick, (t.timers.get 1).counter, (t.timers.get 1).divisor, t.cycle)) =
      some (Psw.ofByte 0x03, 256, 0, 1, 3) := by decide

/-- AND A,#$C3: AND: N, Z only; C, V, H untouched (95_test_vectors.md, 41_alu8.md R146). -/
theorem test_andAImm :
    (stepped { standard with a := 0x3C, psw := Psw.ofByte 0x49 } [0x28, 0xC3]).map
      (fun t => (t.a, t.pc, t.psw, t.cycle)) =
      some (0x00, 0x0202, Psw.ofByte 0x4B, 2) := by decide

/-- OR (X),(Y): OR (X),(Y) (95_test_vectors.md, 41_alu8.md R143). -/
theorem test_orIndXIndY :
    (stepped { standard with x := 0x30, y := 0x31, ram := bytesAt [(0x0030, 0x01), (0x0031, 0x80)] } [0x19]).map
      (fun t => (t.pc, t.psw, t.ram.read 0x0030, t.cycle)) =
      some (0x0201, Psw.ofByte 0x80, 0x81, 5) := by decide

/-- ADDW YA,$20: ADDW signed overflow (95_test_vectors.md, 42_arith16.md R213). -/
theorem test_addw :
    (stepped { standard with a := 0xFF, y := 0x7F, ram := bytesAt [(0x0020, 0x01)] } [0x7A, 0x20]).map
      (fun t => (t.a, t.y, t.psw.n, t.psw.v, t.psw.z, t.psw.c)) =
      some (0x00, 0x80, true, true, false, false) := by decide

/-- SUBW YA,$20: SUBW with borrow (95_test_vectors.md, 42_arith16.md R214). -/
theorem test_subw :
    (stepped { standard with a := 0x00, y := 0x00, ram := bytesAt [(0x0020, 0x01)] } [0x9A, 0x20]).map
      (fun t => (t.a, t.y, t.psw.n, t.psw.v, t.psw.z, t.psw.c)) =
      some (0xFF, 0xFF, true, false, false, false) := by decide

/-- SUBW YA,$20: SUBW signed overflow (95_test_vectors.md, 42_arith16.md R214). -/
theorem test_subw_2 :
    (stepped { standard with a := 0x00, y := 0x80, ram := bytesAt [(0x0020, 0x01)] } [0x9A, 0x20]).map
      (fun t => (t.a, t.y, t.psw.n, t.psw.v, t.psw.z, t.psw.c)) =
      some (0xFF, 0x7F, false, true, false, true) := by decide

/-- CMPW YA,$20: CMPW is tier E: fault by default (95_test_vectors.md, 42_arith16.md R217). -/
theorem test_cmpw :
    (stepped standard [0x5A, 0x20]).map
      (fun t => (t.run, t.faultInfo, t.pc, t.cycle)) =
      some (.faulted, some { op := 0x5A, pc := 0x0200 }, 0x0200, 0) := by decide

/-- CMPW YA,$20: CMPW with the extension: N, Z, C only (95_test_vectors.md, 42_arith16.md R217). -/
theorem test_cmpw_2 :
    (stepped 
        { standard with
          a := 0x34, y := 0x12, params := { Params.default with extOpcodes := true }
          ram := bytesAt [(0x0020, 0x35), (0x0021, 0x12)] }
        [0x5A, 0x20]).map
      (fun t => (t.pc, t.psw, t.cycle)) =
      some (0x0202, Psw.ofByte 0x80, 4) := by decide

/-- MUL YA: MUL: 0xFF * 0xFF = 0xFE01; N, Z from Y (95_test_vectors.md, 42_arith16.md R215). -/
theorem test_mul :
    (stepped { standard with a := 0xFF, y := 0xFF } [0xCF]).map
      (fun t => (t.a, t.y, t.pc, t.psw, t.cycle)) =
      some (0x01, 0xFE, 0x0201, Psw.ofByte 0x80, 9) := by decide

/-- MUL YA: MUL: product 0x0006 has Y = 0, so Z = 1 though YA is not 0 (95_test_vectors.md, 42_arith16.md R215). -/
theorem test_mul_2 :
    (stepped { standard with a := 0x03, y := 0x02 } [0xCF]).map
      (fun t => (t.a, t.y, t.pc, t.psw, t.cycle)) =
      some (0x06, 0x00, 0x0201, Psw.ofByte 0x02, 9) := by decide

/-- DIV YA,X: DIV: 0x0102 / 0x10 = 0x10 remainder 2; V, H drawn (95_test_vectors.md, 42_arith16.md R216). -/
theorem test_div :
    (stepped { standard with a := 0x02, x := 0x10, y := 0x01 } [0x9E]).map
      (fun t => (t.a, t.y, t.psw.n, t.psw.z, t.psw.c)) =
      some (0x10, 0x02, false, false, false) := by decide

/-- DIV YA,X: DIV by 0: A, Y, N, Z, V, H all drawn (95_test_vectors.md, 42_arith16.md R216). -/
theorem test_div_2 :
    (stepped { standard with a := 0x02, x := 0x00, y := 0x01 } [0x9E]).map
      (fun t => (t.pc, t.psw.c, t.cycle)) =
      some (0x0201, false, 12) := by decide

/-- INCW $20: INCW carries into the high byte (95_test_vectors.md, 48_inc_dec.md R300). -/
theorem test_incw :
    (stepped { standard with ram := bytesAt [(0x0020, 0xFF)] } [0x3A, 0x20]).map
      (fun t => (t.pc, t.psw, t.ram.read 0x0020, t.ram.read 0x0021, t.cycle)) =
      some (0x0202, Psw.ofByte 0x00, 0x00, 0x01, 6) := by decide

/-- DECW $20: DECW 0x0000 to 0xFFFF, N = 1 (95_test_vectors.md, 48_inc_dec.md R301). -/
theorem test_decw :
    (stepped standard [0x1A, 0x20]).map
      (fun t => (t.pc, t.psw, t.ram.read 0x0020, t.ram.read 0x0021, t.cycle)) =
      some (0x0202, Psw.ofByte 0x80, 0xFF, 0xFF, 6) := by decide

/-- ASL A: ASL ignores the incoming C (95_test_vectors.md, 43_shift_rotate.md R219). -/
theorem test_aslA :
    (stepped { standard with a := 0x40, psw := Psw.ofByte 0x01 } [0x1C]).map
      (fun t => (t.a, t.pc, t.psw, t.cycle)) =
      some (0x80, 0x0201, Psw.ofByte 0x80, 2) := by decide

/-- ROL A: ROL: C enters bit 0 (95_test_vectors.md, 43_shift_rotate.md R227). -/
theorem test_rolA :
    (stepped { standard with a := 0x80, psw := Psw.ofByte 0x01 } [0x3C]).map
      (fun t => (t.a, t.pc, t.psw, t.cycle)) =
      some (0x01, 0x0201, Psw.ofByte 0x01, 2) := by decide

/-- ROR A: ROR: C enters bit 7 (95_test_vectors.md, 43_shift_rotate.md R231). -/
theorem test_rorA :
    (stepped { standard with a := 0x01, psw := Psw.ofByte 0x01 } [0x7C]).map
      (fun t => (t.a, t.pc, t.psw, t.cycle)) =
      some (0x80, 0x0201, Psw.ofByte 0x81, 2) := by decide

/-- ROL $0300: ROL on absolute (95_test_vectors.md, 43_shift_rotate.md R230). -/
theorem test_rolAbs :
    (stepped { standard with ram := bytesAt [(0x0300, 0x7F)] } [0x2C, 0x00, 0x03]).map
      (fun t => (t.pc, t.psw, t.ram.read 0x0300, t.cycle)) =
      some (0x0203, Psw.ofByte 0x80, 0xFE, 5) := by decide

/-- SET1 $20.3: SET1 bit 3: opcode 0x62 = 3 * 32 + 0x02 (95_test_vectors.md, 44_bit_ops.md R236). -/
theorem test_set1 :
    (stepped { standard with ram := bytesAt [(0x0020, 0x01)] } [0x62, 0x20]).map
      (fun t => (t.pc, t.psw, t.ram.read 0x0020, t.cycle)) =
      some (0x0202, Psw.ofByte 0x00, 0x09, 4) := by decide

/-- SET1 $F1.1: SET1 on Control is a read-modify-write of 0x00F1 (95_test_vectors.md, 44_bit_ops.md R236). -/
theorem test_set1_2 :
    (stepped { standard with ram := bytesAt [(0x00F1, 0x01), (0x00FA, 0x02), (0x00FB, 0x03)] } [0x22, 0xF1]).map
      (fun t => (t.ram.read 0x00F1, (t.timers.get 0).nextTick, (t.timers.get 0).divisor, (t.timers.get 1).nextTick,
        (t.timers.get 1).divisor)) =
      some (0x03, 256, 2, 256, 3) := by decide

/-- TSET1 $0300: TSET1 with A = M: Z = 1 (95_test_vectors.md, 44_bit_ops.md R240). -/
theorem test_tset1 :
    (stepped { standard with a := 0x55, ram := bytesAt [(0x0300, 0x55)] } [0x0E, 0x00, 0x03]).map
      (fun t => (t.pc, t.psw, t.ram.read 0x0300, t.cycle)) =
      some (0x0203, Psw.ofByte 0x02, 0x55, 6) := by decide

/-- TCLR1 $0300: TCLR1: N, Z from A - M, then M & ~A (95_test_vectors.md, 44_bit_ops.md R241). -/
theorem test_tclr1 :
    (stepped { standard with a := 0x0F, ram := bytesAt [(0x0300, 0xFF)] } [0x4E, 0x00, 0x03]).map
      (fun t => (t.pc, t.psw, t.ram.read 0x0300, t.cycle)) =
      some (0x0203, Psw.ofByte 0x00, 0xF0, 6) := by decide

/-- OR1 C,$0020.3: OR1 with the extension: bit 3 of 0x0020 (95_test_vectors.md, 44_bit_ops.md R242). -/
theorem test_or1 :
    (stepped 
        { standard with
          params := { Params.default with extOpcodes := true }, ram := bytesAt [(0x0020, 0x08)] }
        [0x0A, 0x20, 0x60]).map
      (fun t => (t.pc, t.psw, t.cycle)) =
      some (0x0203, Psw.ofByte 0x01, 5) := by decide

/-- MOV1 $0020.0,C: MOV1 mem.bit,C (95_test_vectors.md, 44_bit_ops.md R248). -/
theorem test_mov1MemC :
    (stepped 
        { standard with
          psw := Psw.ofByte 0x01, params := { Params.default with extOpcodes := true }
          ram := bytesAt [(0x0020, 0xF0)] }
        [0xCA, 0x20, 0x00]).map
      (fun t => (t.pc, t.psw, t.ram.read 0x0020, t.cycle)) =
      some (0x0203, Psw.ofByte 0x01, 0xF1, 6) := by decide

/-- NOT1 $0020.1: NOT1 (95_test_vectors.md, 44_bit_ops.md R249). -/
theorem test_not1 :
    (stepped 
        { standard with
          params := { Params.default with extOpcodes := true }, ram := bytesAt [(0x0020, 0x02)] }
        [0xEA, 0x20, 0x20]).map
      (fun t => (t.pc, t.psw, t.ram.read 0x0020, t.cycle)) =
      some (0x0203, Psw.ofByte 0x00, 0x00, 5) := by decide

/-- BEQ $0207: BEQ not taken: 4 cycles (95_test_vectors.md, 45_branches.md R258). -/
theorem test_beq :
    (stepped standard [0xF0, 0x05]).map
      (fun t => (t.pc, t.psw, t.cycle)) =
      some (0x0202, Psw.ofByte 0x00, 4) := by decide

/-- BNE $01FD: BNE taken (95_test_vectors.md, 45_branches.md R257). -/
theorem test_bne :
    (stepped standard [0xD0, 0xFB]).map
      (fun t => (t.pc, t.psw, t.cycle)) =
      some (0x01FD, Psw.ofByte 0x00, 6) := by decide

/-- BMI $0182: BMI taken, most negative displacement (95_test_vectors.md, 45_branches.md R252). -/
theorem test_bmi :
    (stepped { standard with psw := Psw.ofByte 0x80 } [0x30, 0x80]).map
      (fun t => (t.pc, t.psw, t.cycle)) =
      some (0x0182, Psw.ofByte 0x80, 6) := by decide

/-- BRA $0005: target wraps at 65536: 0xFFFE + 2 + 5 = 0x0005 (95_test_vectors.md, 45_branches.md R259). -/
theorem test_bra :
    (stepped { standard with pc := 0xFFFE } [0x2F, 0x05]).map
      (fun t => (t.pc, t.psw, t.cycle)) =
      some (0x0005, Psw.ofByte 0x00, 4) := by decide

/-- BRA $FFFE: target wraps below 0: 0x0000 + 2 - 4 = 0xFFFE (95_test_vectors.md, 45_branches.md R259). -/
theorem test_bra_2 :
    (stepped { standard with pc := 0x0000 } [0x2F, 0xFC]).map
      (fun t => (t.pc, t.psw, t.cycle)) =
      some (0xFFFE, Psw.ofByte 0x00, 4) := by decide

/-- BBC $20.3,$0213: BBC bit 3 (opcode 0x73) not taken (95_test_vectors.md, 44_bit_ops.md R239). -/
theorem test_bbc :
    (stepped { standard with ram := bytesAt [(0x0020, 0x08)] } [0x73, 0x20, 0x10]).map
      (fun t => (t.pc, t.psw, t.cycle)) =
      some (0x0203, Psw.ofByte 0x00, 5) := by decide

/-- BBS $FD.0,$0213: BBS on a timer counter clears it (95_test_vectors.md, 44_bit_ops.md R238). -/
theorem test_bbs_2 :
    (stepped 
        { standard with
          timers := standard.timers.set 0 { enabled := true, nextTick := 256, pre := 0, counter := 1, divisor := 1 } }
        [0x03, 0xFD, 0x10]).map
      (fun t => (t.psw, (t.timers.get 0).nextTick, (t.timers.get 0).counter, (t.timers.get 0).divisor, t.cycle)) =
      some (Psw.ofByte 0x00, 256, 0, 1, 7) := by decide

/-- CBNE $20,$0213: CBNE not taken when equal (95_test_vectors.md, 46_control_flow.md R267). -/
theorem test_cbneDp :
    (stepped { standard with ram := bytesAt [(0x0020, 0x3C)] } [0x2E, 0x20, 0x10]).map
      (fun t => (t.pc, t.psw, t.cycle)) =
      some (0x0203, Psw.ofByte 0x00, 5) := by decide

/-- CBNE $20+X,$0213: CBNE $dp+X (95_test_vectors.md, 46_control_flow.md R268). -/
theorem test_cbneDpX :
    (stepped standard [0xDE, 0x20, 0x10]).map
      (fun t => (t.pc, t.psw, t.cycle)) =
      some (0x0213, Psw.ofByte 0x00, 8) := by decide

/-- DBNZ $20,$0200: DBNZ $dp reaching 0: not taken (95_test_vectors.md, 46_control_flow.md R266). -/
theorem test_dbnzDp :
    (stepped { standard with ram := bytesAt [(0x0020, 0x01)] } [0x6E, 0x20, 0xFD]).map
      (fun t => (t.pc, t.psw, t.ram.read 0x0020, t.cycle)) =
      some (0x0203, Psw.ofByte 0x00, 0x00, 5) := by decide

/-- DBNZ Y,$0200: DBNZ Y from 0 wraps to 0xFF: taken (95_test_vectors.md, 46_control_flow.md R265). -/
theorem test_dbnzY :
    (stepped { standard with y := 0x00 } [0xFE, 0xFE]).map
      (fun t => (t.y, t.pc, t.psw, t.cycle)) =
      some (0xFF, 0x0200, Psw.ofByte 0x00, 6) := by decide

/-- JMP [$0300+X]: JMP through a table: pointer at a + X (95_test_vectors.md, 46_control_flow.md R264). -/
theorem test_jmpIdxInd :
    (stepped { standard with x := 0x02, ram := bytesAt [(0x0302, 0x78), (0x0303, 0x56)] } [0x1F, 0x00, 0x03]).map
      (fun t => (t.pc, t.psw, t.cycle)) =
      some (0x5678, Psw.ofByte 0x00, 6) := by decide

/-- CALL $0300: CALL with SP = 0x00: the two pushes straddle the wrap (95_test_vectors.md, 46_control_flow.md R261). -/
theorem test_call_2 :
    (stepped { standard with sp := 0x00 } [0x3F, 0x00, 0x03]).map
      (fun t => (t.sp, t.psw, t.ram.read 0x0100, t.ram.read 0x01FF, t.cycle)) =
      some (0xFE, Psw.ofByte 0x00, 0x02, 0x03, 8) := by decide

/-- RET: RET with SP = 0xFE: pops 0x01FF then 0x0100 (95_test_vectors.md, 46_control_flow.md R262). -/
theorem test_ret_2 :
    (stepped { standard with sp := 0xFE, ram := bytesAt [(0x0100, 0x56), (0x01FF, 0x78)] } [0x6F]).map
      (fun t => (t.sp, t.pc, t.psw, t.cycle)) =
      some (0x00, 0x5678, Psw.ofByte 0x00, 5) := by decide

/-- BRK: BRK (tier G): push pc + 1, push PSW, B = 1, I = 0, pc from 0xFFDE (95_test_vectors.md, 47_flags_misc.md R284). -/
theorem test_brk :
    (stepped { standard with psw := Psw.ofByte 0x05, ram := bytesAt [(0xFFDF, 0x04)] } [0x0F]).map
      (fun t => (t.sp, t.psw, t.ram.read 0x01EF, t.ram.read 0x01EE, t.ram.read 0x01ED)) =
      some (0xEC, Psw.ofByte 0x11, 0x02, 0x01, 0x05) := by decide

/-- TCALL 4: TCALL 4 with the extension: vector at 0xFFDE - 8 = 0xFFD6 (95_test_vectors.md, 46_control_flow.md R269). -/
theorem test_tcall :
    (stepped 
        { standard with
          params := { Params.default with extOpcodes := true }, ram := bytesAt [(0xFFD7, 0x05)] }
        [0x41]).map
      (fun t => (t.sp, t.psw, t.ram.read 0x01EF, t.ram.read 0x01EE, t.cycle)) =
      some (0xED, Psw.ofByte 0x00, 0x02, 0x01, 8) := by decide

/-- PCALL $80: PCALL with the extension (95_test_vectors.md, 46_control_flow.md R270). -/
theorem test_pcall :
    (stepped { standard with params := { Params.default with extOpcodes := true } } [0x4F, 0x80]).map
      (fun t => (t.sp, t.psw, t.ram.read 0x01EF, t.ram.read 0x01EE, t.cycle)) =
      some (0xED, Psw.ofByte 0x00, 0x02, 0x02, 6) := by decide

/-- RETI: RETI with the extension: PSW, then pc (95_test_vectors.md, 46_control_flow.md R271). -/
theorem test_reti :
    (stepped 
        { standard with
          sp := 0xEC, params := { Params.default with extOpcodes := true }
          ram := bytesAt [(0x01ED, 0x83), (0x01EE, 0x01), (0x01EF, 0x02)] }
        [0x7F]).map
      (fun t => (t.sp, t.pc, t.psw, t.cycle)) =
      some (0xEF, 0x0201, Psw.ofByte 0x83, 6) := by decide

/-- NOTC: NOTC (95_test_vectors.md, 47_flags_misc.md R277). -/
theorem test_notc :
    (stepped { standard with psw := Psw.ofByte 0x01 } [0xED]).map
      (fun t => (t.pc, t.psw, t.cycle)) =
      some (0x0201, Psw.ofByte 0x00, 3) := by decide

/-- CLRV: CLRV: V = 0, H drawn (95_test_vectors.md, 47_flags_misc.md R278). -/
theorem test_clrv :
    (stepped { standard with psw := Psw.ofByte 0x48 } [0xE0]).map
      (fun t => (t.psw.n, t.psw.v, t.psw.z, t.psw.c, t.cycle)) =
      some (false, false, false, false, 2) := by decide

/-- SLEEP: SLEEP (tier G): the run ends (95_test_vectors.md, 47_flags_misc.md R282). -/
theorem test_sleep :
    (stepped standard [0xEF]).map
      (fun t => (t.pc, t.psw, t.run, t.cycle)) =
      some (0x0201, Psw.ofByte 0x00, .halted, 3) := by decide

/-- DAA A: DAA with the extension: 0x3C has low nibble above 9 (95_test_vectors.md, 47_flags_misc.md R285). -/
theorem test_daa :
    (stepped { standard with params := { Params.default with extOpcodes := true } } [0xDF]).map
      (fun t => (t.a, t.pc, t.psw, t.cycle)) =
      some (0x42, 0x0201, Psw.ofByte 0x00, 3) := by decide

/-- DAS A: DAS with the extension, C = 1, H = 1: no adjustment (95_test_vectors.md, 47_flags_misc.md R286). -/
theorem test_das :
    (stepped 
        { standard with
          a := 0x25, psw := Psw.ofByte 0x09, params := { Params.default with extOpcodes := true } }
        [0xBE]).map
      (fun t => (t.pc, t.psw, t.cycle)) =
      some (0x0201, Psw.ofByte 0x09, 3) := by decide

/-- INC A: INC wraps to 0; C untouched (95_test_vectors.md, 48_inc_dec.md R288). -/
theorem test_incA :
    (stepped { standard with a := 0xFF, psw := Psw.ofByte 0x01 } [0xBC]).map
      (fun t => (t.a, t.pc, t.psw, t.cycle)) =
      some (0x00, 0x0201, Psw.ofByte 0x03, 2) := by decide

/-- DEC A: DEC wraps to 0xFF (95_test_vectors.md, 48_inc_dec.md R294). -/
theorem test_decA :
    (stepped { standard with a := 0x00 } [0x9C]).map
      (fun t => (t.a, t.pc, t.psw, t.cycle)) =
      some (0xFF, 0x0201, Psw.ofByte 0x80, 2) := by decide

/-- DEC Y: DEC Y to 0 (95_test_vectors.md, 48_inc_dec.md R296). -/
theorem test_decY :
    (stepped { standard with y := 0x01 } [0xDC]).map
      (fun t => (t.y, t.pc, t.psw, t.cycle)) =
      some (0x00, 0x0201, Psw.ofByte 0x02, 2) := by decide

/-- INC $F0+X: INC $dp+X (95_test_vectors.md, 48_inc_dec.md R292). -/
theorem test_incDpX :
    (stepped { standard with ram := bytesAt [(0x0000, 0xFF)] } [0xBB, 0xF0]).map
      (fun t => (t.pc, t.psw, t.ram.read 0x0000, t.cycle)) =
      some (0x0202, Psw.ofByte 0x02, 0x00, 5) := by decide

/-- INC $FD: INC of a timer counter address: the read clears the counter,
the write is ignored; flags f (95_test_vectors.md, 48_inc_dec.md R291). -/
theorem test_incDp :
    (stepped 
        { standard with
          timers := standard.timers.set 0 { enabled := true, nextTick := 256, pre := 0, counter := 7, divisor := 1 } }
        [0xAB, 0xFD]).map
      (fun t => (t.psw, (t.timers.get 0).nextTick, (t.timers.get 0).counter, (t.timers.get 0).divisor, t.cycle)) =
      some (Psw.ofByte 0x00, 256, 0, 1, 4) := by decide

/-- MOV A,$0300: instruction straddling 0xFFFF: operand bytes at 0xFFFF and 0x0000 (95_test_vectors.md,
40_data_movement.md R81). -/
theorem test_movAAbs :
    (stepped { standard with pc := 0xFFFE, ram := bytesAt [(0x0300, 0x77)] } [0xE5, 0x00, 0x03]).map
      (fun t => (t.a, t.pc, t.psw, t.cycle)) =
      some (0x77, 0x0001, Psw.ofByte 0x00, 4) := by decide

/-- A halted and a faulted CPU have no step (10_state.md R20). -/
theorem test_no_step :
    (match step { standard with run := .halted } with | .fault .cpuHalted => true | _ => false) = true ∧
      (match step { standard with run := .faulted } with | .fault .cpuFaulted => true | _ => false) = true := by decide

/-- `withFetchWord` places an instruction where the next step runs it, from the reset state: MOV A,#$9A, and SLEEP. -/
theorem test_withFetchWord :
    (match step (State.reset.withFetchWord 16 0x9AE8) with | .next t => t.a == 0x9A && t.pc == 2 | _ => false) = true ∧
      (match step (State.reset.withFetchWord 8 0xEF) with | .next t => t.run == .halted | _ => false) = true := by decide

/-! ### Timers: vectors T2, T4 and T5 of 95_test_vectors.md -/

/-- T2: the third tick, at cycle 96, matches divisor 3. -/
theorem test_timer_t2 :
    (stepped { standard with cycle := 94, sampleCounter := 1, nextSampleCycle := 128,
                             timers := standard.timers.set 2 { Timer.enable 2 3 0 with nextTick := 96, pre := 2 } } [0x00]).map
      (fun t => ((t.timers.get 2).pre, (t.timers.get 2).counter, (t.timers.get 2).nextTick)) = some (0, 1, 128) := by decide

/-- T4: with divisor 0 the tick at pre-divider 255 wraps it to 0 and matches. -/
theorem test_timer_t4 :
    Timer.tick 2 8192 { Timer.enable 2 0 0 with nextTick := 8192, pre := 255 } =
      { Timer.enable 2 0 0 with nextTick := 8224, pre := 0, counter := 1 } := by decide

/-- T5: a second write of 0x01 to Control restarts a running timer. -/
theorem test_timer_t5 :
    (State.memWrite { standard with cycle := 280, ram := bytesAt [(0x00FA, 1)],
                                    timers := standard.timers.set 0 { Timer.enable 0 1 0 with nextTick := 512, counter := 1 } }
      0x00F1 0x01).timers.get 0 = { enabled := true, nextTick := 536, pre := 0, counter := 0, divisor := 1 } := by decide

/-! ### The DSP: vectors of 95_test_vectors.md, section 4 -/

/-- Test tables: this GAUSS, and the same rate everywhere (RATE1, RATE4). -/
def tablesOf (gauss : BitVec 9 → Int) (rate : Nat) : DspTables :=
  { gauss := gauss, attackRate := fun _ => rate, decayRate := fun _ _ => rate, sustainRate := fun _ _ => rate,
    gainLinear := fun _ => rate, gainBent := fun _ => rate }

/-- G0: `GAUSS[0] = 2048`, every other entry 0. -/
def gauss0 (k : BitVec 9) : Int := if k = 0 then 2048 else 0

/-- G1: `GAUSS[k] = k`. -/
def gauss1 (k : BitVec 9) : Int := k.toNat

/-- A decoded block: the samples and `prev_brr` after it. -/
def brr (bytes : List Byte) (p0 p1 : Int) : List Int × List Int :=
  let ram := bytesAt (bytes.zipIdx.map fun p => (0x1100#16 + BitVec.ofNat 16 p.2, p.1))
  let v := decodeBlock ram { Voice.off with curAddr := 0x1100, prevBrr := #v[p0, p1] }
  (v.blk.samples.toList, v.prevBrr.toList)

/-- D1: range 12, filter 0, high nibble first. -/
theorem test_brr_d1 : brr [0xC0, 0x01, 0x12, 0x23, 0x34, 0x45, 0x56, 0x67, 0x77] 0 0 =
    ([0, 2048, 2048, 4096, 4096, 6144, 6144, 8192, 8192, 10240, 10240, 12288, 12288, 14336, 14336, 14336],
      [14336, 14336]) := by decide

/-- D4: a range above 12. -/
theorem test_brr_d4 : brr [0xD3, 0x7F, 0x80, 0, 0, 0, 0, 0, 0] 0 0 =
    ([0, -2048, -2048, 0, 0, 0, 0, 0, 0, 0, 0, 0, 0, 0, 0, 0], [0, 0]) := by decide

/-- D5: filter 1. -/
theorem test_brr_d5 : brr [0x44, 0x10, 0, 0, 0, 0xF0, 0, 0, 0] 0 0 =
    ([8, 7, 6, 5, 4, 3, 2, 1, -8, -8, -8, -8, -8, -8, -8, -8], [-8, -8]) := by decide

/-- D6a: filter 2. -/
theorem test_brr_d6a : brr [0x48, 0x10, 0, 0, 0, 0, 0, 0, 0] 100 200 =
    ([295, 374, 435, 478, 503, 509, 498, 471, 430, 377, 314, 244, 170, 95, 21, -50], [21, -50]) := by decide

/-- D6b: filter 3. -/
theorem test_brr_d6b : brr [0x4C, 0x10, 0, 0, 0, 0, 0, 0, 0] 100 (-200) =
    ([-434, -618, -759, -862, -933, -977, -998, -1001, -989, -965, -931, -889, -842, -791, -738, -685],
      [-738, -685]) := by decide

/-- D7g; D8g up to its shift (the sum -30660000 and its floor -14971,
which R335's clamp leaves as it is: log 21); and R335 by
hand for four samples of -33000, whose -16468 is clamped. -/
theorem test_gauss :
    gaussMix (tablesOf gauss1 1) 0x40 #v[100, -200, 300] 400 = 25 ∧
      (shiftInterp #v[100, -200, 300] 400).toList = [-200, 300, 400] ∧
      gaussMix (tablesOf gauss1 1) 0 #v[-30000, -30000, -30000] (-30000) = -14971 ∧
      gaussMix (tablesOf gauss1 1) 0 #v[-33000, -33000, -33000] (-33000) = -16384 := by decide

/-- The envelope after each of `n` samples, with fixed registers (KeyOn's state unless given). -/
def envTrace (rate : Nat) (adsr1 adsr2 gain : Byte) : Nat → Nat → Voice → List Int
  | 0, _, _ => []
  | k + 1, n, x =>
    let y := envStep (tablesOf gauss0 rate) n adsr1 adsr2 gain x
    y.env :: envTrace rate adsr1 adsr2 gain k (n + 1) y

/-- A voice in this phase at this level. -/
def atLevel (phase : Phase) (env : Int) : Voice := { Voice.off with enabled := true, phase := phase, env := env }

/-- E1, E2 and E3: ADSR. -/
theorem test_env_adsr :
    envTrace 1 0x8F 0xE0 0 6 0 (atLevel .attack 0) = [1024, 2047, 2039, 2039, 2039, 2039] ∧
      envTrace 4 0x8A 0xE0 0 10 0 (atLevel .attack 0) = [32, 32, 32, 32, 64, 64, 64, 64, 96, 96] ∧
      envTrace 1 0xFF 0x1F 0 5 0 (atLevel .attack 0) = [1024, 2047, 2039, 2031, 2023] := by decide

/-- E6 to E10: GAIN direct and the four GAIN modes. -/
theorem test_env_gain :
    envTrace 1 0 0 0x7F 2 0 (atLevel .attack 0) = [2032, 2032] ∧
      envTrace 1 0 0 0xC0 4 0 (atLevel .attack 0) = [32, 64, 96, 128] ∧
      envTrace 1 0 0 0xE0 5 0 (atLevel .attack 1500) = [1532, 1564, 1572, 1580, 1588] ∧
      envTrace 1 0 0 0x80 3 0 (atLevel .attack 40) = [8, 0, 0] ∧
      envTrace 1 0 0 0xA0 3 0 (atLevel .attack 2047) = [2039, 2031, 2023] := by decide

/-- E5: Release from 20, and the voice disabled in the step that reaches 0. -/
theorem test_env_release :
    envTrace 1 0 0 0 3 0 (atLevel .release 20) = [12, 4, 0] ∧
      (envStep (tablesOf gauss0 1) 0 0 0 0 (atLevel .release 4)).enabled = false ∧
      (envStep (tablesOf gauss0 1) 0 0 0 0 (atLevel .release 12)).enabled = true := by decide

/-- Writes of DSP registers at sample 0. -/
def dspWrites (ram : Memory) (ws : List (BitVec 7 × Byte)) : Dsp :=
  ws.foldl (fun d w => dspWrite ram 0 w.1 w.2 d) State.reset.dsp

/-- D9: FLG with bit 7 puts every voice into Release and leaves it enabled until the next sample. -/
theorem test_dsp_d9 :
    (let d := dspWrites [] [(0x4C, 0xFF), (0x6C, 0x80)]
     voiceIds.all (fun v => (d.voice v).phase == .release && (d.voice v).enabled) && d.reg 0x6C == 0x80 &&
       d.reg 0x4C == 0xFF && voiceIds.all (fun v => !((dspSample (tablesOf gauss0 1) [] 0 d).1.voice v).enabled)) = true
         := by
  decide

/-- The RAM of D10: the directory and one block. -/
def ramD10 : Memory :=
  bytesAt [(0x1001, 0x11), (0x1003, 0x11), (0x1100, 0xC0), (0x1101, 0x01), (0x1102, 0x12), (0x1103, 0x23), (0x1104, 0x34),
    (0x1105, 0x45), (0x1106, 0x56), (0x1107, 0x67), (0x1108, 0x77)]

/-- The DSP of D10 after its register writes and KON. -/
def dspD10 : Dsp :=
  dspWrites ramD10 [(0x5D, 0x10), (0x03, 0x10), (0x00, 0x7F), (0x01, 0x7F), (0x0C, 0x7F), (0x1C, 0x7F), (0x05, 0x8F),
    (0x06, 0xE0), (0x4C, 0x01)]

/-- D10, sample 0: the pair, the pitch counter, the envelope, VxENVX and VxOUTX. -/
theorem test_dsp_d10 :
    (let r := dspSample (tablesOf gauss0 1) ramD10 0 dspD10
     (r.2, (r.1.voice 0).pitchCounter, (r.1.voice 0).env, r.1.reg 0x08, r.1.reg 0x09)) =
      ({ left := 1008, right := 1008 }, 0x1000, 1024, 8, 4) := by decide

/-! ### Witnesses: for every statement with hypotheses, a state and operands that meet them -/

/-- The standard state with EXT_OPCODES true. -/
def extended : State := { standard with params := { Params.default with extOpcodes := true } }

theorem witness_DecodeOfEncode : (Instr.or1 0x1FFF 7).WellFormed ∧ (Instr.movAAbs 0xFFFF).WellFormed := by decide

theorem witness_EncodeOfDecode : decode [0x0A, 0xFF, 0xFF, 0x12] = .ok (.or1 0x1FFF 7, [0x12]) := rfl

/-- A list exactly as long as the instruction, and one byte too short. -/
theorem witness_InstructionLengths :
    lengthOf 0x3F ≤ [(0x34 : Byte), 0x12].length + 1 ∧ [(0x34 : Byte)].length + 1 < lengthOf 0x3F ∧
      lengthOf 0x00 ≤ ([] : List Byte).length + 1 := by decide

/-- Both clauses: a tier E opcode that may execute, at a plain address. -/
theorem witness_StepRunsDecoded :
    (placed extended [0x4F, 0x40]).run = .running ∧
      (isTierE ((placed extended [0x4F, 0x40]).peek 0x0200) = true → (placed extended [0x4F,
        0x40]).params.extOpcodes = true) ∧
      (decode [(placed extended [0x4F, 0x40]).fetchBytes.op, (placed extended [0x4F, 0x40]).fetchBytes.b1,
        (placed extended [0x4F, 0x40]).fetchBytes.b2]).toOption = some (.pcall 0x40, [0]) ∧
      PlainAddr 0x0200 ∧ PlainAddr (0x0200 + 1) ∧ PlainAddr (0x0200 + 2) ∧
      (decode [(placed extended [0x4F, 0x40]).ram.read 0x0200, (placed extended [0x4F, 0x40]).ram.read (0x0200 + 1),
        (placed extended [0x4F, 0x40]).ram.read (0x0200 + 2)]).toOption = some (.pcall 0x40, [0]) := by decide

theorem witness_StepExists :
    standard.run = .running ∧ { standard with run := .halted }.run = .halted ∧
      { standard with run := .faulted }.run = .faulted := by decide

/-- The first and the last opcode of R73's list, in a step and in `exec`. -/
theorem witness_UnknownOpcode :
    (placed standard [0x01]).run = .running ∧ (placed standard [0x01]).params.extOpcodes = false ∧
      isTierE ((placed standard [0x01]).peek 0x0200) = true ∧ isTierE ((placed standard [0xCA]).peek 0x0200) = true ∧
      isTierE (Instr.opcode (.mov1MemC 0x1FFF 7)) = true := by decide

/-- A step in which a sample falls due. -/
theorem witness_OutputsAppend :
    (stepped { standard with cycle := 62 } [0x00]).map (fun t => (t.sampleCounter, t.out.length)) = some (1, 1) := by decide

/-- The premises of the five invariants together, and a step that exists: a store to Control. -/
theorem witness_StepKeeps :
    (standard.MemoryOk ∧ standard.TimersOk ∧ standard.VoicesOk ∧ standard.SchedulerOk ∧ standard.FaultOk) ∧
      (stepped standard [0x8F, 0x07, 0xF1]).isSome = true := by decide

/-- A snapshot with a byte at each end of RAM. -/
theorem witness_LaunchMeetsInvariants :
    { Snapshot.zero with ram := bytesAt [(0, 1), (0xFFFF, 2)] }.ram.wf = true := by decide

theorem witness_RegisterFrame :
    (∃ t, exec .movSpX standard = .next t) ∧ Instr.writes .movSpX .a = false ∧ Instr.writes .movSpX .x = false ∧
      Instr.writes .pushA .y = false ∧ Instr.writes (.movAImm 0xFF) .sp = false := ⟨⟨_, rfl⟩, by decide⟩

/-- One instruction for each of the six clauses. -/
theorem witness_FlagFrame :
    (∃ t, exec .clrc standard = .next t) ∧ Instr.writesNZ .clrc = false ∧ Instr.writesVH .clrc = false ∧
      Instr.writesP .clrc = false ∧ Instr.writesB .clrc = false ∧ Instr.writesI .clrc = false ∧
      (∃ t, exec .brk standard = .next t) ∧ Instr.writesC .brk = false := ⟨⟨_, rfl⟩, by decide, by decide, by decide,
        by decide, by decide, ⟨_, rfl⟩, by decide⟩

/-- The bytes beside the stored one. -/
theorem witness_MemoryFrame :
    (∃ t, exec (.movAbsA 0xFFFF) standard = .next t) ∧ 0xFFFE#16 ∉ Instr.storesTo (.movAbsA 0xFFFF) standard ∧
      0x0000#16 ∉ Instr.storesTo (.movAbsA 0xFFFF) standard ∧ PlainAddr 0xFFFE ∧
      (∃ t, exec .nop standard = .next t) ∧ 0xFFFF#16 ∉ Instr.storesTo .nop standard :=
  ⟨⟨_, rfl⟩, by decide, by decide, by decide, ⟨_, rfl⟩, by decide⟩

/-- A store beside each of the three device registers, which reads no counter; loads beside the counters,
at 0x00FC and 0x0100,
and at the first and the last of them. -/
theorem witness_DeviceFrame :
    ((∃ t, exec (.movDpA 0xF0) standard = .next t) ∧ 0x00F1#16 ∉ Instr.storesTo (.movDpA 0xF0) standard ∧
      0x00F2#16 ∉ Instr.storesTo (.movDpA 0xF0) standard ∧ 0x00F3#16 ∉ Instr.storesTo (.movDpA 0xF0) standard ∧
      ∀ j : Fin 3, 0x00FD#16 + BitVec.ofNat 16 j.val ∉ Instr.readsFrom (.movDpA 0xF0) standard) ∧
    ((∃ t, exec (.movAAbs 0x00FC) standard = .next t) ∧ (∃ t, exec (.movAAbs 0x0100) standard = .next t) ∧
      0x00FD#16 + BitVec.ofNat 16 (0 : Fin 3).val ∉ Instr.readsFrom (.movAAbs 0x00FC) standard ∧
      0x00FD#16 + BitVec.ofNat 16 (2 : Fin 3).val ∉ Instr.readsFrom (.movAAbs 0x0100) standard) ∧
    ((∃ t, exec (.movADp 0xFD) standard = .next t) ∧ Instr.unknown (.movADp 0xFD) standard = false ∧
      0x00F1#16 ∉ Instr.storesTo (.movADp 0xFD) standard ∧
      0x00FD#16 + BitVec.ofNat 16 (0 : Fin 3).val ∈ Instr.readsFrom (.movADp 0xFD) standard) ∧
    ((∃ t, exec (.movADp 0xFF) standard = .next t) ∧ Instr.unknown (.movADp 0xFF) standard = false ∧
      0x00F1#16 ∉ Instr.storesTo (.movADp 0xFF) standard ∧
      0x00FD#16 + BitVec.ofNat 16 (2 : Fin 3).val ∈ Instr.readsFrom (.movADp 0xFF) standard) :=
  ⟨⟨⟨_, rfl⟩, by decide⟩, ⟨⟨_, rfl⟩, ⟨_, rfl⟩, by decide⟩, ⟨⟨_, rfl⟩, by decide⟩, ⟨_, rfl⟩, by decide⟩

/-- Which instructions read a counter (20_memory.md R64): `MOV $FD,A` does not, `INC $FD` and `CMP A,$FD` do. -/
theorem test_readsFrom :
    0x00FD#16 ∉ Instr.readsFrom (.movDpA 0xFD) standard ∧ 0x00FD#16 ∈ Instr.readsFrom (.incDp 0xFD) standard ∧
      0x00FD#16 ∈ Instr.readsFrom (.cmpADp 0xFD) standard := by decide

theorem witness_ControlFrame :
    (∃ t, exec (.beq 0x80) standard = .next t) ∧ Instr.drawsValues (.beq 0x80) = false ∧
      Instr.unknown (.beq 0x80) standard = false ∧ (Instr.beq 0x80 ≠ .sleep) ∧ (Instr.beq 0x80 ≠ .stop) :=
  ⟨⟨_, rfl⟩, by decide⟩

theorem witness_InertFlags :
    Instr.xcn ≠ .pushPsw ∧ Instr.xcn ≠ .brk ∧ (∃ t, exec .xcn standard = .next t) ∧
      ∃ u, exec .xcn { standard with psw := { standard.psw with b := true, i := true } } = .next u :=
  ⟨by decide, by decide, ⟨_, rfl⟩, ⟨_, rfl⟩⟩

theorem witness_CostIndependence : ∃ t, exec (.bne 0x7F) standard = .next t := ⟨_, rfl⟩

/-- The addresses beside the windowed ones. -/
theorem witness_ReadAfterWrite :
    standard.MemoryOk ∧ PlainAddr 0x00F2 ∧ PlainAddr 0x0100 ∧ 0x0100#16 ≠ 0x00F2#16 := by decide

/-- A disabled timer in a legal state; the plain addresses around the windowed ones. -/
theorem witness_WindowReads :
    standard.TimersOk ∧ (standard.timers.get 2).enabled = false ∧ PlainAddr 0x00F4 ∧ PlainAddr 0x00FC ∧ PlainAddr 0x0100
      := by
  decide

/-- The addresses beside the registers that act on a write. -/
theorem witness_WindowWrites :
    (PlainAddr 0x00F0 ∧ 0x00F0#16 ≠ 0x00F1#16 ∧ 0x00F0#16 ≠ 0x00F2#16) ∧
      (PlainAddr 0x00F4 ∧ 0x00F4#16 ≠ 0x00F1#16 ∧ 0x00F4#16 ≠ 0x00F2#16) := by decide

theorem witness_PushPop : { standard with sp := 0 }.MemoryOk := by decide

/-- Both values of DP_WORD_WRAP. -/
theorem witness_OperandAddresses :
    standard.params.dpWordWrap = .linear ∧
      { standard with params := { Params.default with dpWordWrap := .page } }.params.dpWordWrap = .page := by decide

/-- CALL then RET; BRK then RETI; BRK, POP PSW and RET. -/
theorem witness_ReturnsRoundTrip :
    (standard.MemoryOk ∧ ∃ t u, exec (.call 0xFFFF) standard = .next t ∧ exec .ret t = .next u) ∧
      (extended.MemoryOk ∧ extended.params.extOpcodes = true ∧
        ∃ t u, exec .brk extended = .next t ∧ exec .reti t = .next u) ∧
      (∃ t u w, exec .brk standard = .next t ∧ exec .popPsw t = .next u ∧ exec .ret u = .next w) :=
  ⟨⟨by decide, _, _, rfl, rfl⟩, ⟨by decide, rfl, _, _, rfl, rfl⟩, ⟨_, _, _, rfl, rfl, rfl⟩⟩

theorem witness_Loads :
    Instr.loadForm (.movAAbsX 0xFFFF) = some (.a, .mem (.absX 0xFFFF)) ∧ Instr.loadForm (.movYImm 0xFF) = some (.y,
      .imm 0xFF) ∧
      Instr.transferForm .movXSp = some (.x, .sp) := by decide

theorem witness_Stores : Instr.storeForm (.movIdxIndA 0xFF) = some (.idxInd 0xFF, .a) := by decide

theorem witness_AluOnA :
    Instr.accForm (.adcAImm 0xFF) = some (.adc, .imm 0xFF) ∧ Instr.accForm (.sbcAIndIdx 0xFF) = some (.sbc,
      .mem (.indIdx 0xFF)) := by
  decide

theorem witness_AluOnMemory : Instr.memForm .adcIndXIndY = some (.adc, .indX, .mem .indY) := by decide

theorem witness_Compares :
    Instr.compareForm (.cmpXImm 0xFF) = some (.x, .imm 0xFF) ∧
      Instr.compareMemForm (.cmpDpDp 0x00 0xFF) = some (.dp 0xFF, .mem (.dp 0x00)) := by decide

/-- CMPW, the tier E bit changes and carry bits, TCALL, PCALL, RETI, DAA and DAS: the tier E opcodes execute. -/
theorem witness_WordArithmetic_BitChanges_CarryBits_CallsAndJumps_BreakAndReturn_DecimalAdjust :
    extended.params.extOpcodes = true := rfl

/-- DIV on each side of Y = X, and with X = 0. -/
theorem witness_MultiplyDivide :
    { standard with y := 0x0F }.y.toNat < { standard with y := 0x0F }.x.toNat ∧
      { standard with y := 0x10 }.x.toNat ≤ { standard with y := 0x10 }.y.toNat ∧
      { standard with x := 0 }.x.toNat ≤ { standard with x := 0 }.y.toNat := by decide

theorem witness_Shifts : Instr.shiftMemForm (.rorDpX 0xFF) = some (.ror, .dpX 0xFF) := by decide

theorem witness_Branches : Instr.condForm (.bvs 0x80) = some (.vs, 0x80) := by decide

theorem witness_IncrementDecrement :
    Instr.stepRegForm .decY = some (false, .y) ∧ Instr.stepMemForm (.incAbs 0xFFFF) = some (true, .abs 0xFFFF) := by decide

theorem witness_TimerRegisters : (0x05 : Byte).getLsbD (1 : Fin 3).val = false := by decide

/-- The last tick before the match, with the largest divisor and with 0; a disabled timer; a tick not due. -/
theorem witness_TimerRate :
    254 < (if (0xFF : Byte) = 0 then 256 else (0xFF : Byte).toNat) ∧
      255 < (if (0x00 : Byte) = 0 then 256 else (0x00 : Byte).toNat) ∧ Timer.off.enabled = false ∧
      255 < (Timer.enable 0 1 0).nextTick := by decide

/-- A register that is none of the three that act; another register; KON's bit 7 both ways. -/
theorem witness_DspWrites :
    (0x7C#7 ≠ 0x4C#7 ∧ 0x7C#7 ≠ 0x5C#7 ∧ 0x7C#7 ≠ 0x6C#7) ∧ 0x4D#7 ≠ 0x4C#7 ∧
      (0x7F : Byte).getLsbD (7 : Fin 8).val = false ∧ (0x80 : Byte).getLsbD (7 : Fin 8).val = true := by decide

/-- A register that is no ENVX, OUTX or ENDX of any voice; a voice that is not enabled. -/
theorem witness_DspSampleFrame :
    (0x7D#7 ≠ 0x7C#7 ∧ ∀ v : Fin 8, 0x7D#7 ≠ voiceReg v 8 ∧ 0x7D#7 ≠ voiceReg v 9) ∧ (dspD10.voice 7).enabled = false := by
  decide

/-- Two RAMs that differ in the byte after the block, and two voices that differ in their phase. -/
theorem witness_BlockDecodeLocal :
    (atLevel .attack 0).curAddr = (atLevel .decay 1).curAddr ∧ (atLevel .attack 0).prevBrr = (atLevel .decay 1).prevBrr ∧
      ∀ j : Nat, j ≤ 8 → Memory.read (bytesAt [(8, 5)]) ((atLevel .attack 0).curAddr + BitVec.ofNat 16 j) =
        Memory.read (bytesAt [(8, 5), (9, 6)]) ((atLevel .attack 0).curAddr + BitVec.ofNat 16 j) := by decide

theorem witness_Pitch : State.reset.dsp.pitch 7 = 0 ∧ (State.reset.dsp.voice 7).pitchCounter < 0x10000 := by decide

/-- FLG with bit 6 clear, FLG with bit 6 set, and no voice enabled. -/
theorem witness_MixOutput :
    ((State.reset.dsp.setReg 0x6C 0xBF).reg 0x6C#7).getLsbD 6 = false ∧
      ((State.reset.dsp.setReg 0x6C 0x40).reg 0x6C#7).getLsbD 6 = true ∧
      ∀ v : Fin 8, (State.reset.dsp.voice v).enabled = false := by decide

/-- The largest envelope. -/
theorem witness_ReleaseEnds : (atLevel .release 2047).phase = .release ∧ (atLevel .release 2047).Ok := by decide

/-- Each phase but Release; a voice just due and one sample short of it; the bits and fields of the registers at which the
clauses meet. -/
theorem witness_EnvelopeSteps :
    ((atLevel .attack 0).phase ≠ .release ∧ (atLevel .decay 2047).phase ≠ .release ∧ (atLevel .sustain 256).phase ≠
      .release) ∧
    (({ atLevel .attack 0 with nextCounter := 5 } : Voice).nextCounter ≤ 5 ∧
      4 < ({ atLevel .attack 0 with nextCounter := 5 } : Voice).nextCounter) ∧
    ((0x80 : Byte).getLsbD 7 = true ∧ (0x7F : Byte).getLsbD 7 = false) ∧
    ((0xE0 : Byte).toNat % 32 = 0 ∧ 0 < (0xE1 : Byte).toNat % 32) ∧
    ((0x9F : Byte).toNat / 32 % 4 = 0 ∧ (0xA0 : Byte).toNat / 32 % 4 = 1 ∧ (0xDF : Byte).toNat / 32 % 4 = 2 ∧
      (0xE0 : Byte).toNat / 32 % 4 = 3) := by decide

end Sys2Proof.Tests
end

section
/-! PROOF (O21). What an instruction does to the scheduler's side of the state: the parameters, the sample counters, the output,
the draws, the cycle count, fault_info and the run state. -/

namespace Sys2Proof.Machine

/-- The fields of the state that an instruction's effect leaves alone, but for the draws and the run state (60_exceptions.md
R312, R346; 00_scope.md R11; 10_state.md R20). -/
structure Control where
  params : Params
  sampleCounter : Nat
  nextSampleCycle : Nat
  out : List Sample
  draws : Nat
  cycle : Nat
  faultInfo : Option FaultInfo
  run : Run

/-- The control fields of a state. -/
def State.control (s : State) : Control :=
  { params := s.params, sampleCounter := s.sampleCounter, nextSampleCycle := s.nextSampleCycle, out := s.out,
    draws := s.draws, cycle := s.cycle, faultInfo := s.faultInfo, run := s.run }

/-! ### The operations on memory and registers: no control field -/

@[simp] theorem State.control_setNZ8 (s : State) (v : Byte) : (s.setNZ8 v).control = s.control := by
  simp [State.control]
@[simp] theorem State.control_setNZ16 (s : State) (w : Addr) : (s.setNZ16 w).control = s.control := by
  simp [State.control]
@[simp] theorem State.control_setYA (s : State) (w : Addr) : (s.setYA w).control = s.control := by
  simp [State.control]
@[simp] theorem State.control_touch (s : State) (a : Addr) : (s.touch a).control = s.control := by
  simp [State.control]
@[simp] theorem State.control_touchWord (s : State) (a : Addr) : (s.touchWord a).control = s.control := by
  simp [State.touchWord]
@[simp] theorem State.control_touchDpWord (s : State) (o : Byte) : (s.touchDpWord o).control = s.control := by
  simp [State.touchDpWord]
@[simp] theorem State.control_memWrite (s : State) (a : Addr) (v : Byte) : (s.memWrite a v).control = s.control := by
  simp [State.control]
@[simp] theorem State.control_dpWordWrite (s : State) (o : Byte) (w : Addr) : (s.dpWordWrite o w).control = s.control := by
  simp [State.dpWordWrite]
@[simp] theorem State.control_push (s : State) (v : Byte) : (s.push v).control = s.control := by
  simp [State.control]
@[simp] theorem State.control_pushWord (s : State) (w : Addr) : (s.pushWord w).control = s.control := by
  simp [State.pushWord]
@[simp] theorem Loc.control_walk (l : Loc) (s : State) : (l.walk s).control = s.control := by
  simp [State.control]
@[simp] theorem Loc.control_after (l : Loc) (s : State) : (l.after s).control = s.control := by
  simp [State.control]
@[simp] theorem Src.control_after (o : Src) (s : State) : (o.after s).control = s.control := by
  simp [State.control]
@[simp] theorem Loc.control_store (l : Loc) (v : Byte) (s : State) : (l.store v s).control = s.control := by
  simp [Loc.store]
@[simp] theorem State.control_modifyDpWord (s : State) (d : Byte) (w : Addr) : (s.modifyDpWord d w).control = s.control := by
  simp [State.modifyDpWord]
@[simp] theorem State.control_moveToA (s : State) (v : Byte) : (s.moveToA v).control = s.control := by
  simp [State.moveToA, State.control]
@[simp] theorem State.control_moveToX (s : State) (v : Byte) : (s.moveToX v).control = s.control := by
  simp [State.moveToX, State.control]
@[simp] theorem State.control_moveToY (s : State) (v : Byte) : (s.moveToY v).control = s.control := by
  simp [State.moveToY, State.control]
@[simp] theorem State.control_loadA (s : State) (o : Src) : (s.loadA o).control = s.control := by
  simp [State.loadA]
@[simp] theorem State.control_loadX (s : State) (o : Src) : (s.loadX o).control = s.control := by
  simp [State.loadX]
@[simp] theorem State.control_loadY (s : State) (o : Src) : (s.loadY o).control = s.control := by
  simp [State.loadY]
@[simp] theorem State.control_tableCall (s : State) (n : BitVec 4) : (s.tableCall n).control = s.control := by
  simp [State.tableCall]
@[simp] theorem State.control_stepX (s : State) : s.stepX.control = s.control := by
  simp [State.stepX, State.control]
@[simp] theorem State.control_mulYA (s : State) : s.mulYA.control = s.control := by
  simp [State.mulYA]
@[simp] theorem State.control_cmpYA (s : State) (w : Addr) : (s.cmpYA w).control = s.control := by
  simp [State.cmpYA, State.control]
@[simp] theorem State.control_carryFromBit (s : State) (m : Addr) (c : Bool) : (s.carryFromBit m c).control = s.control := by
  simp [State.carryFromBit, State.control]
@[simp] theorem State.control_daa (s : State) : s.daa.control = s.control := by
  simp [State.daa, State.control]
@[simp] theorem State.control_das (s : State) : s.das.control = s.control := by
  simp [State.das, State.control]
@[simp] theorem State.control_enterTrap (s : State) (ret : Addr) : (s.enterTrap ret).control = s.control := by
  simp [State.enterTrap, State.pushWord, State.control]
@[simp] theorem State.control_breakTrap (s : State) : s.breakTrap.control = s.control := by
  simp [State.breakTrap]
@[simp] theorem State.control_leaveTrap (s : State) : s.leaveTrap.control = s.control := by
  simp [State.leaveTrap, State.control]

/-! ### The operations on bytes, and what is done by one: ADC alone draws -/

@[simp] theorem control_or8 (x m : Byte) (s : State) : (or8 x m s).2.control = s.control := by simp [or8]
@[simp] theorem control_and8 (x m : Byte) (s : State) : (and8 x m s).2.control = s.control := by simp [and8]
@[simp] theorem control_eor8 (x m : Byte) (s : State) : (eor8 x m s).2.control = s.control := by simp [eor8]
@[simp] theorem control_adc8 (x m : Byte) (s : State) :
    (adc8 x m s).2.control = { s.control with draws := s.control.draws + 1 } := by simp [adc8, State.control]
@[simp] theorem control_sbc8 (x m : Byte) (s : State) : (sbc8 x m s).2.control = s.control := by
  simp [sbc8, State.control]
@[simp] theorem control_cmp8 (x m : Byte) (s : State) : (cmp8 x m s).control = s.control := by
  simp [cmp8, State.control]
@[simp] theorem control_asl8 (v : Byte) (s : State) : (asl8 v s).2.control = s.control := by simp [asl8, State.control]
@[simp] theorem control_lsr8 (v : Byte) (s : State) : (lsr8 v s).2.control = s.control := by simp [lsr8, State.control]
@[simp] theorem control_rol8 (v : Byte) (s : State) : (rol8 v s).2.control = s.control := by simp [rol8, State.control]
@[simp] theorem control_ror8 (v : Byte) (s : State) : (ror8 v s).2.control = s.control := by simp [ror8, State.control]
@[simp] theorem control_inc8 (v : Byte) (s : State) : (inc8 v s).2.control = s.control := by simp [inc8]
@[simp] theorem control_dec8 (v : Byte) (s : State) : (dec8 v s).2.control = s.control := by simp [dec8]
@[simp] theorem control_setBit (b : BitVec 3) (v : Byte) (s : State) : (setBit b v s).2.control = s.control := rfl
@[simp] theorem control_clearBit (b : BitVec 3) (v : Byte) (s : State) : (clearBit b v s).2.control = s.control := rfl
@[simp] theorem control_flipBit (b : BitVec 3) (v : Byte) (s : State) : (flipBit b v s).2.control = s.control := rfl
@[simp] theorem control_carryToBit (b : BitVec 3) (v : Byte) (s : State) : (carryToBit b v s).2.control = s.control := rfl
@[simp] theorem control_decrement (v : Byte) (s : State) : (decrement v s).2.control = s.control := rfl
@[simp] theorem control_testSet (m : Byte) (s : State) : (testSet m s).2.control = s.control := by simp [testSet]
@[simp] theorem control_testClear (m : Byte) (s : State) : (testClear m s).2.control = s.control := by simp [testClear]

/-- A read-modify-write does to the control fields what its byte operation does. -/
@[simp] theorem Loc.control_modify (l : Loc) (f : Byte → State → Byte × State) (s : State) :
    (l.modify f s).control = (f (l.value s) (l.after s)).2.control := by
  simp [Loc.modify]

@[simp] theorem State.control_aluMem (s : State) (f : Byte → Byte → State → Byte × State) (dst : Loc) (o : Src) :
    (s.aluMem f dst o).control = (f (dst.value (o.after s)) (o.value s) (dst.after (o.after s))).2.control := by
  simp [State.aluMem]

@[simp] theorem State.control_aluA (s : State) (f : Byte → Byte → State → Byte × State) (o : Src) :
    (s.aluA f o).control = (f s.a (o.value s) (o.after s)).2.control := by
  simp [State.aluA, State.control]

@[simp] theorem State.control_modifyA (s : State) (f : Byte → State → Byte × State) :
    (s.modifyA f).control = (f s.a s).2.control := by
  simp [State.modifyA, State.control]

@[simp] theorem State.control_modifyX (s : State) (f : Byte → State → Byte × State) :
    (s.modifyX f).control = (f s.x s).2.control := by
  simp [State.modifyX, State.control]

@[simp] theorem State.control_modifyY (s : State) (f : Byte → State → Byte × State) :
    (s.modifyY f).control = (f s.y s).2.control := by
  simp [State.modifyY, State.control]

@[simp] theorem State.control_cmpReg (s : State) (x : Byte) (o : Src) : (s.cmpReg x o).control = s.control := by
  simp [State.cmpReg]

@[simp] theorem State.control_cmpMem (s : State) (dst : Loc) (o : Src) : (s.cmpMem dst o).control = s.control := by
  simp [State.cmpMem]

/-! ### The other operations that draw, and the halt -/

@[simp] theorem State.control_addYA (s : State) (w : Addr) :
    (s.addYA w).control = { s.control with draws := s.control.draws + 1 } := by
  simp [State.addYA, State.control]

@[simp] theorem State.control_subYA (s : State) (w : Addr) :
    (s.subYA w).control = { s.control with draws := s.control.draws + 1 } := by
  simp [State.subYA, State.control]

@[simp] theorem State.control_clearV (s : State) : s.clearV.control = { s.control with draws := s.control.draws + 1 } := by
  simp [State.clearV, State.control]

/-- DIV uses two draws, or six where it has no quotient (42_arith16.md R216). -/
theorem State.control_divYA (s : State) :
    s.divYA.control = { s.control with draws := s.control.draws + 2 } ∨
      s.divYA.control = { s.control with draws := s.control.draws + 6 } := by
  dsimp only [State.divYA]
  split
  · left; simp [State.control]
  · right; simp [State.control]

@[simp] theorem State.control_halt (s : State) : s.halt.control = { s.control with run := .halted } := by
  simp [State.control]

/-! ### What an instruction can do -/

/-- What the effect of an instruction `i`, begun in `s` and not ended yet, can do to the control fields: nothing; use draws, where
R11 lists `i`; or halt the CPU, for SLEEP and STOP (R310). -/
inductive ControlEffect (i : Instr) (s u : State) : Prop
  | keeps (h : u.control = s.control)
  | draws (hi : i.drawsValues = true) (n : Nat) (h : u.control = { s.control with draws := s.control.draws + n })
  | halts (hi : i = .sleep ∨ i = .stop) (h : u.control = { s.control with run := .halted })

/-- How an instruction `i` begun in `s` completes: an unknown opcode is raised (60_exceptions.md R304), any other instruction has
its effect `u` and then moves pc and pays its cost (R312, R346). -/
inductive Completion (i : Instr) (s : State) : State → Prop
  | raises (hi : i.unknown s = true) : Completion i s (s.raiseUnknown i.opcode)
  | ends (u : State) (taken : Bool) (target : Addr) (h : ControlEffect i s u) : Completion i s (u.goto i taken target)

/-- A tier E instruction completes, whatever EXT_OPCODES is (00_scope.md R7). -/
theorem Completion.tierE {i : Instr} {s u : State} (taken : Bool) (target : Addr) (hi : isTierE i.opcode = true)
    (h : u.control = s.control) : Completion i s (s.tierE i (u.goto i taken target)) := by
  cases he : s.params.extOpcodes with
  | true => rw [State.tierE_ext he]; exact .ends u taken target (.keeps h)
  | false => rw [State.tierE_unknown he]; exact .raises (by simp [Instr.unknown, hi, he])

/-- Every TCALL is a tier E opcode (30_encoding.md R73). -/
theorem isTierE_tcall (n : BitVec 4) : isTierE (Instr.tcall n).opcode = true := by
  revert n
  decide

/-- Every instruction completes, in every state. -/
theorem exec_completes (i : Instr) (s : State) : ∃ t, exec i s = .next t ∧ Completion i s t := by
  cases i
  case adcAImm | adcAIndX | adcADp | adcADpX | adcAAbs | adcAAbsX | adcAAbsY | adcAIdxInd | adcAIndIdx | adcIndXIndY | adcDpDp
      | adcDpImm | addw | subw | clrv =>
    exact ⟨_, rfl, .ends _ _ _ (.draws rfl 1 (by simp))⟩
  case div =>
    rcases s.control_divYA with h | h
    · exact ⟨_, rfl, .ends _ _ _ (.draws rfl 2 h)⟩
    · exact ⟨_, rfl, .ends _ _ _ (.draws rfl 6 h)⟩
  case sleep => exact ⟨_, rfl, .ends _ _ _ (.halts (.inl rfl) s.control_halt)⟩
  case stop => exact ⟨_, rfl, .ends _ _ _ (.halts (.inr rfl) s.control_halt)⟩
  case tcall n => exact ⟨_, rfl, .tierE _ _ (isTierE_tcall n) (by simp)⟩
  case cmpw | or1 | or1Not | and1 | and1Not | eor1 | mov1CMem | mov1MemC | not1 | pcall | reti | daa | das =>
    exact ⟨_, rfl, .tierE _ _ (by simp [Instr.opcode, isTierE]) (by simp)⟩
  -- these write their registers and flags without a named operation
  case movSpX | popA | popX | popY | popPsw | dbnzY | ret | clrp | setp | clrc | setc | notc | ei | di =>
    exact ⟨_, rfl, .ends _ _ _ (.keeps (by simp [State.control]))⟩
  all_goals exact ⟨_, rfl, .ends _ _ _ (.keeps (by simp))⟩

/-- A next state of an instruction is its completion. -/
theorem Completion.of_exec {i : Instr} {s t : State} (h : exec i s = .next t) : Completion i s t := by
  obtain ⟨u, hu, hc⟩ := exec_completes i s
  obtain rfl := Host.Outcome.next.inj (h.symm.trans hu)
  exact hc

/-- Settles O21: pc and the cost aside, an instruction that completes does to the control fields what `ControlEffect` says. -/
theorem controlFrame : Obligations.ControlFrame := by
  intro i s t h
  cases Completion.of_exec h with
  | raises hi => simp [hi]
  | ends u taken target he =>
    cases he with
    | keeps hu => simp_all [State.control]
    | draws hi n hu => simp_all [State.control]
    | halts hi hu => rcases hi with rfl | rfl <;> simp_all [State.control]

end Sys2Proof.Machine
end

section
/-! PROOF (O10 to O12, O17, O18). What an instruction is made of: accesses through the memory fabric, writes of the registers and
flags that the tables of 10_state.md R16 and R19 give it, draws, the halt and the end of an instruction. -/

namespace Sys2Proof.Machine

/-- One micro-operation that the instruction `i` may perform. A register or a group of flags is written only where R16 or R19
names `i` as its writer; RAM and the devices are reached through `MemRead` and `MemWrite` alone (20_memory.md R31, R32). -/
inductive MicroOp (i : Instr) : State → State → Prop
  | read (s : State) (a : Addr) : MicroOp i s (s.touch a)
  | write (s : State) (a : Addr) (v : Byte) : MicroOp i s (s.memWrite a v)
  | reg (s : State) (r : Reg) (v : Byte) (h : i.writes r = true) : MicroOp i s (s.setReg r v)
  | nz (s : State) (n z : Bool) (h : i.writesNZ = true) : MicroOp i s { s with psw := { s.psw with n := n, z := z } }
  | vh (s : State) (v h : Bool) (hi : i.writesVH = true) : MicroOp i s { s with psw := { s.psw with v := v, h := h } }
  | c (s : State) (c : Bool) (h : i.writesC = true) : MicroOp i s { s with psw := { s.psw with c := c } }
  | p (s : State) (p : Bool) (h : i.writesP = true) : MicroOp i s { s with psw := { s.psw with p := p } }
  | b (s : State) (b : Bool) (h : i.writesB = true) : MicroOp i s { s with psw := { s.psw with b := b } }
  | i (s : State) (j : Bool) (h : i.writesI = true) : MicroOp i s { s with psw := { s.psw with i := j } }
  | draw (s : State) (n : Nat) : MicroOp i s { s with draws := s.draws + n }
  | halt (s : State) : MicroOp i s s.halt
  | goto (s : State) (taken : Bool) (target : Addr) : MicroOp i s (s.goto i taken target)
  | raise (s : State) : MicroOp i s (s.raiseUnknown i.opcode)

/-- The instruction `i` can get from the first state to the second by micro-operations of its own. -/
abbrev Performs (i : Instr) : State → State → Prop := Relation.ReflTransGen (MicroOp i)

/-- A byte operation of an instruction: it performs the writes of the flags and the draws, the result is its caller's. -/
abbrev PerformsByte (i : Instr) (f : Byte → State → Byte × State) : Prop := ∀ v s, Performs i s (f v s).2

/-- What every micro-operation of an instruction keeps, the instruction keeps. -/
theorem Performs.keeps {i : Instr} {s t : State} {P : State → Prop} (h : Performs i s t)
    (hm : ∀ {u v}, MicroOp i u v → P u → P v) (hs : P s) : P t := by
  induction h with
  | refl => exact hs
  | tail _ m ih => exact hm m ih

section
variable {i : Instr}

theorem Performs.trans {s t u : State} (h : Performs i s t) (k : Performs i t u) : Performs i s u :=
  Relation.ReflTransGen.trans h k

/-! ### Accesses through the fabric -/

theorem Performs.read (s : State) (a : Addr) : Performs i s (s.touch a) := .single (.read s a)

theorem Performs.write (s : State) (a : Addr) (v : Byte) : Performs i s (s.memWrite a v) := .single (.write s a v)

theorem Performs.touchWord (s : State) (a : Addr) : Performs i s (s.touchWord a) := (Performs.read s a).trans (.read _ _)

theorem Performs.touchDpWord (s : State) (o : Byte) : Performs i s (s.touchDpWord o) := (Performs.read s _).trans (.read _ _)

theorem Performs.dpWordWrite (s : State) (o : Byte) (w : Addr) : Performs i s (s.dpWordWrite o w) :=
  (Performs.write s _ _).trans (.write _ _ _)

theorem Performs.walk (l : Loc) (s : State) : Performs i s (l.walk s) := by
  cases l with
  | idxInd d => exact .touchDpWord s _
  | indIdx d => exact .touchDpWord s d
  | indX | indY | dp | dpX | dpY | abs | absX | absY => exact .refl

theorem Performs.after (l : Loc) (s : State) : Performs i s (l.after s) := (Performs.walk l s).trans (.read _ _)

theorem Performs.source (o : Src) (s : State) : Performs i s (o.after s) := by
  cases o with
  | imm v => exact .refl
  | mem l => exact .after l s

theorem Performs.store (l : Loc) (v : Byte) (s : State) : Performs i s (l.store v s) := (Performs.walk l s).trans (.write _ _ _)

theorem Performs.modify (l : Loc) {f : Byte → State → Byte × State} (hf : PerformsByte i f) (s : State) :
    Performs i s (l.modify f s) :=
  ((Performs.after l s).trans (hf _ _)).trans (.write _ _ _)

/-! ### Registers and the stack -/

theorem Performs.setReg (r : Reg) (h : i.writes r = true) (s : State) (v : Byte) : Performs i s (s.setReg r v) :=
  .single (.reg s r v h)

theorem Performs.setYA (ha : i.writesA = true) (hy : i.writesY = true) (s : State) (w : Addr) : Performs i s (s.setYA w) :=
  (Performs.setReg .y hy s (hiByte w)).trans (.setReg .a ha _ (loByte w))

theorem Performs.push (h : i.writesSp = true) (s : State) (v : Byte) : Performs i s (s.push v) :=
  (Performs.write s _ v).trans (.setReg .sp h _ _)

theorem Performs.pushWord (h : i.writesSp = true) (s : State) (w : Addr) : Performs i s (s.pushWord w) :=
  (Performs.push h s _).trans (.push h _ _)

theorem Performs.popped (h : i.writesSp = true) (s : State) : Performs i s s.popped :=
  (Performs.read s _).trans (.setReg .sp h _ _)

/-! ### Flags and draws -/

theorem Performs.setNZ (h : i.writesNZ = true) (s : State) (n z : Bool) :
    Performs i s { s with psw := { s.psw with n := n, z := z } } := .single (.nz s n z h)

theorem Performs.setNZ8 (h : i.writesNZ = true) (s : State) (v : Byte) : Performs i s (s.setNZ8 v) := .setNZ h s _ _

theorem Performs.setNZ16 (h : i.writesNZ = true) (s : State) (w : Addr) : Performs i s (s.setNZ16 w) := .setNZ h s _ _

theorem Performs.setC (h : i.writesC = true) (s : State) (c : Bool) :
    Performs i s { s with psw := { s.psw with c := c } } := .single (.c s c h)

theorem Performs.setVH (h : i.writesVH = true) (s : State) (v k : Bool) :
    Performs i s { s with psw := { s.psw with v := v, h := k } } := .single (.vh s v k h)

theorem Performs.setP (h : i.writesP = true) (s : State) (p : Bool) :
    Performs i s { s with psw := { s.psw with p := p } } := .single (.p s p h)

theorem Performs.setB (h : i.writesB = true) (s : State) (b : Bool) :
    Performs i s { s with psw := { s.psw with b := b } } := .single (.b s b h)

theorem Performs.setI (h : i.writesI = true) (s : State) (j : Bool) :
    Performs i s { s with psw := { s.psw with i := j } } := .single (.i s j h)

theorem Performs.draw (s : State) (n : Nat) : Performs i s { s with draws := s.draws + n } := .single (.draw s n)

/-- The write of the whole PSW is the write of every flag (10_state.md R18). -/
theorem Performs.setPsw (hn : i.writesNZ = true) (hv : i.writesVH = true) (hc : i.writesC = true) (hp : i.writesP = true)
    (hb : i.writesB = true) (hi : i.writesI = true) (s : State) (f : Psw) : Performs i s { s with psw := f } :=
  (((((Performs.setNZ hn s f.n f.z).trans (.setVH hv _ f.v f.h)).trans (.setC hc _ f.c)).trans (.setP hp _ f.p)).trans
    (.setB hb _ f.b)).trans (.setI hi _ f.i)

/-! ### Operations on bytes -/

theorem Performs.or8 (h : i.writesNZ = true) (x : Byte) : PerformsByte i (or8 x) := fun _ s => .setNZ8 h s _
theorem Performs.and8 (h : i.writesNZ = true) (x : Byte) : PerformsByte i (and8 x) := fun _ s => .setNZ8 h s _
theorem Performs.eor8 (h : i.writesNZ = true) (x : Byte) : PerformsByte i (eor8 x) := fun _ s => .setNZ8 h s _
theorem Performs.inc8 (h : i.writesNZ = true) : PerformsByte i inc8 := fun _ s => .setNZ8 h s _
theorem Performs.dec8 (h : i.writesNZ = true) : PerformsByte i dec8 := fun _ s => .setNZ8 h s _
theorem Performs.testSet (h : i.writesNZ = true) : PerformsByte i testSet := fun _ s => .setNZ8 h s _
theorem Performs.testClear (h : i.writesNZ = true) : PerformsByte i testClear := fun _ s => .setNZ8 h s _
/-- The carry, the overflow and the half carry of an arithmetic operation, with its `n` draws (41_alu8.md R129, R130). -/
theorem Performs.arithFlags (hv : i.writesVH = true) (hc : i.writesC = true) (s : State) (c v h : Bool) (n : Nat) :
    Performs i s { s with psw := { s.psw with c := c, v := v, h := h }, draws := s.draws + n } :=
  ((Performs.setC hc s c).trans (.setVH hv _ v h)).trans (.draw _ n)
theorem Performs.adc8 (hn : i.writesNZ = true) (hv : i.writesVH = true) (hc : i.writesC = true) (x : Byte) :
    PerformsByte i (adc8 x) :=
  fun _ s => (Performs.arithFlags hv hc s _ _ _ 1).trans (.setNZ8 hn _ _)
theorem Performs.sbc8 (hn : i.writesNZ = true) (hv : i.writesVH = true) (hc : i.writesC = true) (x : Byte) :
    PerformsByte i (sbc8 x) :=
  fun _ s => (Performs.arithFlags hv hc s _ _ _ 0).trans (.setNZ8 hn _ _)
theorem Performs.cmp8 (hn : i.writesNZ = true) (hc : i.writesC = true) (x m : Byte) (s : State) : Performs i s (cmp8 x m s) :=
  (Performs.setC hc s _).trans (.setNZ8 hn _ _)
theorem Performs.asl8 (hn : i.writesNZ = true) (hc : i.writesC = true) : PerformsByte i asl8 :=
  fun _ s => (Performs.setC hc s _).trans (.setNZ8 hn _ _)
theorem Performs.lsr8 (hn : i.writesNZ = true) (hc : i.writesC = true) : PerformsByte i lsr8 :=
  fun _ s => (Performs.setC hc s _).trans (.setNZ8 hn _ _)
theorem Performs.rol8 (hn : i.writesNZ = true) (hc : i.writesC = true) : PerformsByte i rol8 :=
  fun _ s => (Performs.setC hc s _).trans (.setNZ8 hn _ _)
theorem Performs.ror8 (hn : i.writesNZ = true) (hc : i.writesC = true) : PerformsByte i ror8 :=
  fun _ s => (Performs.setC hc s _).trans (.setNZ8 hn _ _)
theorem Performs.setBit (b : BitVec 3) : PerformsByte i (setBit b) := fun _ _ => .refl
theorem Performs.clearBit (b : BitVec 3) : PerformsByte i (clearBit b) := fun _ _ => .refl
theorem Performs.flipBit (b : BitVec 3) : PerformsByte i (flipBit b) := fun _ _ => .refl
theorem Performs.carryToBit (b : BitVec 3) : PerformsByte i (carryToBit b) := fun _ _ => .refl
theorem Performs.decrement : PerformsByte i decrement := fun _ _ => .refl

/-! ### The named operations of the meanings -/

theorem Performs.moveToA (ha : i.writesA = true) (hn : i.writesNZ = true) (s : State) (v : Byte) : Performs i s (s.moveToA v) :=
  (Performs.setReg .a ha s v).trans (.setNZ8 hn _ v)
theorem Performs.moveToX (hx : i.writesX = true) (hn : i.writesNZ = true) (s : State) (v : Byte) : Performs i s (s.moveToX v) :=
  (Performs.setReg .x hx s v).trans (.setNZ8 hn _ v)
theorem Performs.moveToY (hy : i.writesY = true) (hn : i.writesNZ = true) (s : State) (v : Byte) : Performs i s (s.moveToY v) :=
  (Performs.setReg .y hy s v).trans (.setNZ8 hn _ v)
theorem Performs.loadA (ha : i.writesA = true) (hn : i.writesNZ = true) (s : State) (o : Src) : Performs i s (s.loadA o) :=
  (Performs.source o s).trans (.moveToA ha hn _ _)
theorem Performs.loadX (hx : i.writesX = true) (hn : i.writesNZ = true) (s : State) (o : Src) : Performs i s (s.loadX o) :=
  (Performs.source o s).trans (.moveToX hx hn _ _)
theorem Performs.loadY (hy : i.writesY = true) (hn : i.writesNZ = true) (s : State) (o : Src) : Performs i s (s.loadY o) :=
  (Performs.source o s).trans (.moveToY hy hn _ _)
theorem Performs.stepX (hx : i.writesX = true) (s : State) : Performs i s s.stepX := .setReg .x hx s _

theorem Performs.aluA (ha : i.writesA = true) {f : Byte → Byte → State → Byte × State} (hf : ∀ x, PerformsByte i (f x))
    (s : State) (o : Src) : Performs i s (s.aluA f o) :=
  ((Performs.source o s).trans (hf _ _ _)).trans (.setReg .a ha _ _)
theorem Performs.aluMem {f : Byte → Byte → State → Byte × State} (hf : ∀ x, PerformsByte i (f x)) (s : State) (dst : Loc)
    (o : Src) : Performs i s (s.aluMem f dst o) :=
  (Performs.source o s).trans (.modify dst (fun x u => hf x _ u) _)
theorem Performs.cmpReg (hn : i.writesNZ = true) (hc : i.writesC = true) (s : State) (x : Byte) (o : Src) :
    Performs i s (s.cmpReg x o) :=
  (Performs.source o s).trans (.cmp8 hn hc _ _ _)
theorem Performs.cmpMem (hn : i.writesNZ = true) (hc : i.writesC = true) (s : State) (dst : Loc) (o : Src) :
    Performs i s (s.cmpMem dst o) :=
  ((Performs.source o s).trans (.after dst _)).trans (.cmp8 hn hc _ _ _)
theorem Performs.modifyA (ha : i.writesA = true) {f : Byte → State → Byte × State} (hf : PerformsByte i f) (s : State) :
    Performs i s (s.modifyA f) :=
  (hf _ s).trans (.setReg .a ha _ _)
theorem Performs.modifyX (hx : i.writesX = true) {f : Byte → State → Byte × State} (hf : PerformsByte i f) (s : State) :
    Performs i s (s.modifyX f) :=
  (hf _ s).trans (.setReg .x hx _ _)
theorem Performs.modifyY (hy : i.writesY = true) {f : Byte → State → Byte × State} (hf : PerformsByte i f) (s : State) :
    Performs i s (s.modifyY f) :=
  (hf _ s).trans (.setReg .y hy _ _)
theorem Performs.modifyDpWord (hn : i.writesNZ = true) (s : State) (d : Byte) (w : Addr) : Performs i s (s.modifyDpWord d w) :=
  ((Performs.touchDpWord s d).trans (.dpWordWrite _ d w)).trans (.setNZ16 hn _ w)

theorem Performs.mulYA (ha : i.writesA = true) (hy : i.writesY = true) (hn : i.writesNZ = true) (s : State) :
    Performs i s s.mulYA :=
  (Performs.setYA ha hy s _).trans (.setNZ8 hn _ _)
theorem Performs.cmpYA (hn : i.writesNZ = true) (hc : i.writesC = true) (s : State) (w : Addr) : Performs i s (s.cmpYA w) :=
  (Performs.setC hc s _).trans (.setNZ16 hn _ _)

/-- The flags, the draw and the result of ADDW and SUBW (42_arith16.md R213, R214). -/
theorem Performs.wordResult (ha : i.writesA = true) (hy : i.writesY = true) (hn : i.writesNZ = true) (hv : i.writesVH = true)
    (hc : i.writesC = true) (s : State) (c v h : Bool) (w : Addr) :
    Performs i s ((State.setNZ16 { s with psw := { s.psw with c := c, v := v, h := h }, draws := s.draws + 1 } w).setYA w) :=
  ((Performs.arithFlags hv hc s c v h 1).trans (.setNZ16 hn _ w)).trans (.setYA ha hy _ w)

theorem Performs.divYA (ha : i.writesA = true) (hy : i.writesY = true) (hn : i.writesNZ = true) (hv : i.writesVH = true)
    (s : State) : Performs i s s.divYA := by
  have result (u : State) (q r : Byte) : Performs i u { u with a := q, y := r } :=
    (Performs.setReg .a ha u q).trans (.setReg .y hy _ r)
  dsimp only [State.divYA]
  split
  · exact (((Performs.setVH hv s _ _).trans (.draw _ 2)).trans (result _ _ _)).trans (.setNZ8 hn _ _)
  · exact (((Performs.setVH hv s _ _).trans (.draw _ 6)).trans (result _ _ _)).trans (.setNZ hn _ _ _)

theorem Performs.daa (ha : i.writesA = true) (hn : i.writesNZ = true) (hc : i.writesC = true) (s : State) :
    Performs i s s.daa :=
  ((Performs.setReg .a ha s _).trans (.setC hc _ _)).trans (.setNZ8 hn _ _)
theorem Performs.das (ha : i.writesA = true) (hn : i.writesNZ = true) (hc : i.writesC = true) (s : State) :
    Performs i s s.das :=
  ((Performs.setReg .a ha s _).trans (.setC hc _ _)).trans (.setNZ8 hn _ _)
theorem Performs.clearV (hv : i.writesVH = true) (s : State) : Performs i s s.clearV :=
  (Performs.setVH hv s false (Config.freeBit s.draws)).trans (.draw _ 1)
theorem Performs.carryFromBit (hc : i.writesC = true) (s : State) (m : Addr) (c : Bool) : Performs i s (s.carryFromBit m c) :=
  (Performs.after (.abs m) s).trans (.setC hc _ c)

/-- Entry of the software trap: three pushes, then B and I (60_exceptions.md R307). -/
theorem Performs.enterTrap (hs : i.writesSp = true) (hb : i.writesB = true) (hi : i.writesI = true) (s : State) (ret : Addr) :
    Performs i s (s.enterTrap ret) :=
  (((Performs.pushWord hs s ret).trans (.push hs _ _)).trans (.setB hb _ true)).trans (.setI hi _ false)

/-! ### The end of an instruction -/

theorem Performs.goto {s u : State} (h : Performs i s u) (taken : Bool) (target : Addr) : Performs i s (u.goto i taken target) :=
  h.trans (.single (.goto u taken target))
theorem Performs.advance {s u : State} (h : Performs i s u) : Performs i s (u.advance i) := h.goto _ _
theorem Performs.branch {s u : State} (h : Performs i s u) (taken : Bool) (r : Byte) : Performs i s (u.branch i taken r) :=
  h.goto _ _

theorem Performs.tierE {s u : State} (h : Performs i s u) : Performs i s (s.tierE i u) := by
  cases he : s.params.extOpcodes with
  | true => rwa [State.tierE_ext he]
  | false => rw [State.tierE_unknown he]; exact .single (.raise s)

end

/-- Every instruction is made of micro-operations of its own, in every state. -/
theorem exec_performs (i : Instr) (s : State) : ∃ t, exec i s = .next t ∧ Performs i s t := by
  cases i
  case movAImm | movAIndX | movADp | movADpX | movAAbs | movAAbsX | movAAbsY | movAIdxInd | movAIndIdx =>
    exact ⟨_, rfl, .advance (.loadA rfl rfl s _)⟩
  case movXImm | movXDp | movXDpY | movXAbs => exact ⟨_, rfl, .advance (.loadX rfl rfl s _)⟩
  case movYImm | movYDp | movYDpX | movYAbs => exact ⟨_, rfl, .advance (.loadY rfl rfl s _)⟩
  case movAX | movAY | xcn => exact ⟨_, rfl, .advance (.moveToA rfl rfl s _)⟩
  case movXA | movXSp => exact ⟨_, rfl, .advance (.moveToX rfl rfl s _)⟩
  case movYA => exact ⟨_, rfl, .advance (.moveToY rfl rfl s _)⟩
  case movSpX => exact ⟨_, rfl, .advance (.setReg .sp rfl s _)⟩
  case movAIndXInc => exact ⟨_, rfl, .advance (((Performs.after .indX s).trans (.stepX rfl _)).trans (.moveToA rfl rfl _ _))⟩
  case movIndXIncA => exact ⟨_, rfl, .advance ((Performs.store .indX s.a s).trans (.stepX rfl _))⟩
  case movIndXA | movDpA | movDpXA | movAbsA | movAbsXA | movAbsYA | movIdxIndA | movIndIdxA | movDpX | movDpYX | movAbsX
      | movDpY | movDpXY | movAbsY | movDpImm =>
    exact ⟨_, rfl, .advance (.store _ _ s)⟩
  case movDpDp ds dd => exact ⟨_, rfl, .advance ((Performs.after (.dp ds) s).trans (.store (.dp dd) _ _))⟩
  case movwYADp d =>
    exact ⟨_, rfl, .advance (((Performs.touchDpWord s d).trans (.setYA rfl rfl _ _)).trans (.setNZ16 rfl _ _))⟩
  case movwDpYA d => exact ⟨_, rfl, .advance (.dpWordWrite s d _)⟩
  case pushA | pushX | pushY | pushPsw => exact ⟨_, rfl, .advance (.push rfl s _)⟩
  case popA => exact ⟨_, rfl, .advance ((Performs.popped rfl s).trans (.setReg .a rfl _ _))⟩
  case popX => exact ⟨_, rfl, .advance ((Performs.popped rfl s).trans (.setReg .x rfl _ _))⟩
  case popY => exact ⟨_, rfl, .advance ((Performs.popped rfl s).trans (.setReg .y rfl _ _))⟩
  case popPsw => exact ⟨_, rfl, .advance ((Performs.popped rfl s).trans (.setPsw rfl rfl rfl rfl rfl rfl _ _))⟩
  case orAImm | orAIndX | orADp | orADpX | orAAbs | orAAbsX | orAAbsY | orAIdxInd | orAIndIdx =>
    exact ⟨_, rfl, .advance (.aluA rfl (.or8 rfl) s _)⟩
  case andAImm | andAIndX | andADp | andADpX | andAAbs | andAAbsX | andAAbsY | andAIdxInd | andAIndIdx =>
    exact ⟨_, rfl, .advance (.aluA rfl (.and8 rfl) s _)⟩
  case eorAImm | eorAIndX | eorADp | eorADpX | eorAAbs | eorAAbsX | eorAAbsY | eorAIdxInd | eorAIndIdx =>
    exact ⟨_, rfl, .advance (.aluA rfl (.eor8 rfl) s _)⟩
  case adcAImm | adcAIndX | adcADp | adcADpX | adcAAbs | adcAAbsX | adcAAbsY | adcAIdxInd | adcAIndIdx =>
    exact ⟨_, rfl, .advance (.aluA rfl (.adc8 rfl rfl rfl) s _)⟩
  case sbcAImm | sbcAIndX | sbcADp | sbcADpX | sbcAAbs | sbcAAbsX | sbcAAbsY | sbcAIdxInd | sbcAIndIdx =>
    exact ⟨_, rfl, .advance (.aluA rfl (.sbc8 rfl rfl rfl) s _)⟩
  case orIndXIndY | orDpDp | orDpImm => exact ⟨_, rfl, .advance (.aluMem (.or8 rfl) s _ _)⟩
  case andIndXIndY | andDpDp | andDpImm => exact ⟨_, rfl, .advance (.aluMem (.and8 rfl) s _ _)⟩
  case eorIndXIndY | eorDpDp | eorDpImm => exact ⟨_, rfl, .advance (.aluMem (.eor8 rfl) s _ _)⟩
  case adcIndXIndY | adcDpDp | adcDpImm => exact ⟨_, rfl, .advance (.aluMem (.adc8 rfl rfl rfl) s _ _)⟩
  case sbcIndXIndY | sbcDpDp | sbcDpImm => exact ⟨_, rfl, .advance (.aluMem (.sbc8 rfl rfl rfl) s _ _)⟩
  case cmpAImm | cmpAIndX | cmpADp | cmpADpX | cmpAAbs | cmpAAbsX | cmpAAbsY | cmpAIdxInd | cmpAIndIdx | cmpXImm | cmpXDp
      | cmpXAbs | cmpYImm | cmpYDp | cmpYAbs =>
    exact ⟨_, rfl, .advance (.cmpReg rfl rfl s _ _)⟩
  case cmpIndXIndY | cmpDpDp | cmpDpImm => exact ⟨_, rfl, .advance (.cmpMem rfl rfl s _ _)⟩
  case addw d | subw d =>
    exact ⟨_, rfl, .advance ((Performs.touchDpWord s d).trans (.wordResult rfl rfl rfl rfl rfl _ _ _ _ _))⟩
  case mul => exact ⟨_, rfl, .advance (.mulYA rfl rfl rfl s)⟩
  case div => exact ⟨_, rfl, .advance (.divYA rfl rfl rfl rfl s)⟩
  case cmpw d => exact ⟨_, rfl, .tierE (.advance ((Performs.touchDpWord s d).trans (.cmpYA rfl rfl _ _)))⟩
  case aslA => exact ⟨_, rfl, .advance (.modifyA rfl (.asl8 rfl rfl) s)⟩
  case lsrA => exact ⟨_, rfl, .advance (.modifyA rfl (.lsr8 rfl rfl) s)⟩
  case rolA => exact ⟨_, rfl, .advance (.modifyA rfl (.rol8 rfl rfl) s)⟩
  case rorA => exact ⟨_, rfl, .advance (.modifyA rfl (.ror8 rfl rfl) s)⟩
  case aslDp | aslDpX | aslAbs => exact ⟨_, rfl, .advance (.modify _ (.asl8 rfl rfl) s)⟩
  case lsrDp | lsrDpX | lsrAbs => exact ⟨_, rfl, .advance (.modify _ (.lsr8 rfl rfl) s)⟩
  case rolDp | rolDpX | rolAbs => exact ⟨_, rfl, .advance (.modify _ (.rol8 rfl rfl) s)⟩
  case rorDp | rorDpX | rorAbs => exact ⟨_, rfl, .advance (.modify _ (.ror8 rfl rfl) s)⟩
  case set1 b d => exact ⟨_, rfl, .advance (.modify (.dp d) (.setBit b) s)⟩
  case clr1 b d => exact ⟨_, rfl, .advance (.modify (.dp d) (.clearBit b) s)⟩
  case tset1 a => exact ⟨_, rfl, .advance (.modify (.abs a) (.testSet rfl) s)⟩
  case tclr1 a => exact ⟨_, rfl, .advance (.modify (.abs a) (.testClear rfl) s)⟩
  case mov1MemC m b => exact ⟨_, rfl, .tierE (.advance (.modify (.abs m) (.carryToBit b) s))⟩
  case not1 m b => exact ⟨_, rfl, .tierE (.advance (.modify (.abs m) (.flipBit b) s))⟩
  case or1 | or1Not | and1 | and1Not | eor1 | mov1CMem => exact ⟨_, rfl, .tierE (.advance (.carryFromBit rfl s _ _))⟩
  case bbs b d r | bbc b d r => exact ⟨_, rfl, .branch (.after (.dp d) s) _ r⟩
  case cbneDp d r => exact ⟨_, rfl, .branch (.after (.dp d) s) _ r⟩
  case cbneDpX d r => exact ⟨_, rfl, .branch (.after (.dpX d) s) _ r⟩
  case dbnzDp d r => exact ⟨_, rfl, .branch (.modify (.dp d) .decrement s) _ r⟩
  case dbnzY r => exact ⟨_, rfl, .branch (.setReg .y rfl s _) _ r⟩
  case bpl r | bmi r | bvc r | bvs r | bcc r | bcs r | bne r | beq r => exact ⟨_, rfl, .branch .refl _ r⟩
  case bra | jmpAbs => exact ⟨_, rfl, .goto .refl _ _⟩
  case jmpIdxInd a => exact ⟨_, rfl, .goto (.touchWord s _) _ _⟩
  case call a => exact ⟨_, rfl, .goto (.pushWord rfl s _) _ _⟩
  case pcall u => exact ⟨_, rfl, .tierE (.goto (.pushWord rfl s _) _ _)⟩
  case tcall n => exact ⟨_, rfl, .tierE (.goto ((Performs.pushWord rfl s _).trans (.touchWord _ _)) _ _)⟩
  case ret => exact ⟨_, rfl, .goto ((Performs.popped rfl s).trans (.popped rfl _)) _ _⟩
  case reti =>
    exact ⟨_, rfl, .tierE (.goto ((((Performs.popped rfl s).trans (.popped rfl _)).trans (.popped rfl _)).trans
      (.setPsw rfl rfl rfl rfl rfl rfl _ _)) _ _)⟩
  case brk => exact ⟨_, rfl, .goto ((Performs.enterTrap rfl rfl rfl s _).trans (.touchWord _ _)) _ _⟩
  case clrp => exact ⟨_, rfl, .advance (.setP rfl s false)⟩
  case setp => exact ⟨_, rfl, .advance (.setP rfl s true)⟩
  case clrc | setc | notc => exact ⟨_, rfl, .advance (.setC rfl s _)⟩
  case clrv => exact ⟨_, rfl, .advance (.clearV rfl s)⟩
  case ei => exact ⟨_, rfl, .advance (.setI rfl s true)⟩
  case di => exact ⟨_, rfl, .advance (.setI rfl s false)⟩
  case nop => exact ⟨_, rfl, .advance .refl⟩
  case sleep | stop => exact ⟨_, rfl, .advance (.single (.halt s))⟩
  case daa => exact ⟨_, rfl, .tierE (.advance (.daa rfl rfl rfl s))⟩
  case das => exact ⟨_, rfl, .tierE (.advance (.das rfl rfl rfl s))⟩
  case incA => exact ⟨_, rfl, .advance (.modifyA rfl (.inc8 rfl) s)⟩
  case incX => exact ⟨_, rfl, .advance (.modifyX rfl (.inc8 rfl) s)⟩
  case incY => exact ⟨_, rfl, .advance (.modifyY rfl (.inc8 rfl) s)⟩
  case decA => exact ⟨_, rfl, .advance (.modifyA rfl (.dec8 rfl) s)⟩
  case decX => exact ⟨_, rfl, .advance (.modifyX rfl (.dec8 rfl) s)⟩
  case decY => exact ⟨_, rfl, .advance (.modifyY rfl (.dec8 rfl) s)⟩
  case incDp | incDpX | incAbs => exact ⟨_, rfl, .advance (.modify _ (.inc8 rfl) s)⟩
  case decDp | decDpX | decAbs => exact ⟨_, rfl, .advance (.modify _ (.dec8 rfl) s)⟩
  case incw d | decw d => exact ⟨_, rfl, .advance (.modifyDpWord rfl s d _)⟩

/-- A next state of an instruction is reached by its micro-operations. -/
theorem Performs.of_exec {i : Instr} {s t : State} (h : exec i s = .next t) : Performs i s t := by
  obtain ⟨u, hu, hp⟩ := exec_performs i s
  obtain rfl := Host.Outcome.next.inj (h.symm.trans hu)
  exact hp

end Sys2Proof.Machine
end

section
/-! PROOF (O6, O9 to O12, O14 to O16). What every machine step keeps, and the launch from which the invariants hold. -/

namespace Sys2Proof.Machine

/-! ### The parts of a step: the fetch, the instruction, the timers, the samples (60_exceptions.md R312) -/

/-- What a read through the fabric keeps, the fetch keeps: it is at most three reads (20_memory.md R62). -/
theorem State.afterFetch_keeps {P : State → Prop} (read : ∀ s a, P s → P (s.touch a)) {s : State} (h : P s) :
    P s.afterFetch := by
  have hOp : P s.afterOp := read s _ h
  have hB1 : P s.afterB1 := by unfold State.afterB1; split <;> [exact read _ _ hOp; exact hOp]
  unfold State.afterFetch
  split
  · exact read _ _ hB1
  · exact hB1

/-- What one sample keeps, the sample loop keeps. -/
theorem produceSamples_keeps {P : State → Prop} (sample : ∀ s, P s → P s.produceSample) (fuel : Nat) {s : State} (h : P s) :
    P (produceSamples fuel s) := by
  induction fuel generalizing s with
  | zero => exact h
  | succ n ih =>
    unfold produceSamples
    split
    · exact ih (sample s h)
    · exact h

/-- What the timers' tick and one sample keep, the end of a step keeps. -/
theorem State.endStep_keeps {P : State → Prop} (tick : ∀ s, P s → P s.timersTick)
    (sample : ∀ s, P s → P s.produceSample) {s : State} (h : P s) : P s.endStep := by
  unfold State.endStep
  split
  · exact h
  · exact produceSamples_keeps sample _ (tick s h)
  · exact produceSamples_keeps sample _ (tick s h)

/-- What each part of a step keeps, the step keeps. -/
theorem step_keeps {P : State → Prop} (read : ∀ s a, P s → P (s.touch a))
    (instr : ∀ (i : Instr) (s t : State), s.run = .running → exec i s = .next t → P s → P t)
    (tick : ∀ s, P s → P s.timersTick) (sample : ∀ s, P s → P s.produceSample) {s t : State} (hs : P s)
    (h : step s = .next t) : P t := by
  obtain ⟨hr, u, hu, rfl⟩ := step_eq_next h
  have hrun : s.afterFetch.run = .running := State.afterFetch_keeps (P := (·.run = .running)) (fun _ _ => id) hr
  exact State.endStep_keeps tick sample (instr _ _ _ hrun hu (State.afterFetch_keeps read hs))

/-! ### RAM's canonical form (10_state.md R21) -/

/-- Settles O10: only `MemWrite` changes RAM, and it keeps the form. -/
theorem stepKeepsMemory : Obligations.StepKeepsMemory := by
  intro s t
  refine step_keeps (P := State.MemoryOk) (fun _ _ => id) ?_ (fun _ => id)
    (fun u h => by simpa only [State.MemoryOk, State.produceSample_ram] using h)
  intro i u v _ hx
  refine (Performs.of_exec hx).keeps fun m h => ?_
  cases m with
  | write a v => exact State.memWrite_wf h a v
  | reg r v => cases r <;> exact h
  | read | nz | vh | c | p | b | i | draw | halt | goto | raise => exact h

/-! ### A disabled timer has every field 0 (10_state.md R24) -/

/-- A legal timer: disabled only with every field 0. -/
def Timer.Ok (t : Timer) : Prop := t.enabled = false → t = Timer.off

theorem Timer.Ok.off : Timer.off.Ok := fun _ => rfl

theorem Timer.Ok.clear {t : Timer} (h : t.Ok) : Timer.Ok { t with counter := 0 } := by
  intro he
  rw [h he]
  rfl

/-- A tick moves only an enabled timer, and leaves it enabled (60_exceptions.md R318). -/
theorem Timer.Ok.tick {t : Timer} (h : t.Ok) (j : Fin 3) (n : Nat) : Timer.Ok (t.tick j n) := by
  intro he
  unfold Timer.tick at he ⊢
  split_ifs at he ⊢ with hd
  · simp [hd.1] at he
  · simp [hd.1] at he
  · exact h he

/-- A write to Control enables a timer or resets its every field (R316, R317). -/
theorem Timer.Ok.controlTimer (ram : Memory) (n : Nat) (v : Byte) (j : Fin 3) : Timer.Ok (controlTimer ram n v j) := by
  intro he
  unfold Machine.controlTimer at he ⊢
  split_ifs at he ⊢
  · simp [Timer.enable] at he
  · rfl

theorem State.timersOk_touch (s : State) (a : Addr) (h : s.TimersOk) : (s.touch a).TimersOk := by
  intro j
  rw [State.timers_touch]
  split
  · exact Timer.Ok.clear (h j)
  · exact h j

theorem State.timersOk_memWrite {s : State} (h : s.TimersOk) (a : Addr) (v : Byte) : (s.memWrite a v).TimersOk := by
  rcases s.memWrite_cases a v with ⟨-, e⟩ | ⟨-, e⟩ | ⟨-, e⟩ | ⟨-, e⟩ | ⟨-, -, -, -, e⟩ <;> rw [e]
  · intro j
    match j with
    | 0 | 1 | 2 => exact Timer.Ok.controlTimer _ _ _ _
  all_goals exact h

theorem State.timersOk_timersTick (s : State) (h : s.TimersOk) : s.timersTick.TimersOk := by
  intro j
  match j with
  | 0 | 1 | 2 => exact Timer.Ok.tick (h _) _ _

/-- Settles O11: reads clear a counter, a write to Control resets a timer it disables, and a tick moves enabled timers alone. -/
theorem stepKeepsTimers : Obligations.StepKeepsTimers := by
  intro s t
  refine step_keeps (P := State.TimersOk) State.timersOk_touch ?_ State.timersOk_timersTick
    (fun u h => by simpa only [State.TimersOk, State.produceSample_timers] using h)
  intro i u v _ hx
  refine (Performs.of_exec hx).keeps fun m h => ?_
  cases m with
  | read a => exact State.timersOk_touch _ a h
  | write a v => exact State.timersOk_memWrite h a v
  | reg r v => cases r <;> exact h
  | nz | vh | c | p | b | i | draw | halt | goto | raise => exact h

/-! ### Every voice is legal between samples (10_state.md R26) -/

/-- Every voice of the DSP is legal. -/
def Dsp.VoicesOk (d : Dsp) : Prop := ∀ v : Fin 8, (d.voice v).Ok

theorem Voice.Ok.off : Voice.off.Ok := by decide

theorem Dsp.VoicesOk.setReg {d : Dsp} (h : d.VoicesOk) (k : BitVec 7) (b : Byte) : (d.setReg k b).VoicesOk := h

theorem Dsp.VoicesOk.setVoice {d : Dsp} (h : d.VoicesOk) (v : Fin 8) {x : Voice} (hx : x.Ok) : (d.setVoice v x).VoicesOk := by
  intro w
  by_cases e : w = v
  · subst e; rwa [Dsp.voice_setVoice_same]
  · rw [Dsp.voice_setVoice_other _ e]; exact h w

/-- A block's decoding does not touch the envelope or the phase accumulator (60_exceptions.md R328). -/
theorem Voice.Ok.decodeBlock {x : Voice} (h : x.Ok) (ram : Memory) : (decodeBlock ram x).Ok := by
  rw [decodeBlock_eq]
  exact h

theorem Dsp.VoicesOk.keyOn {d : Dsp} (h : d.VoicesOk) (ram : Memory) (n : Nat) (v : Fin 8) : (keyOn ram n d v).VoicesOk :=
  h.setVoice v ⟨le_rfl, by simp, by simp⟩

theorem Dsp.VoicesOk.keyOff {d : Dsp} (h : d.VoicesOk) (v : Fin 8) : (keyOff d v).VoicesOk := h.setVoice v (h v)

theorem Dsp.VoicesOk.dspWrite {d : Dsp} (h : d.VoicesOk) (ram : Memory) (n : Nat) (k : BitVec 7) (b : Byte) :
    (dspWrite ram n k b d).VoicesOk := by
  unfold Machine.dspWrite
  split_ifs
  · exact h.setReg _ _
  · exact List.foldlRecOn _ _ (h.setReg k b) fun _ hd v _ => hd.keyOn ram n v
  · exact List.foldlRecOn _ _ (h.setReg k b) fun _ hd v _ => hd.keyOff v
  · exact List.foldlRecOn _ _ (h.setReg k b) fun _ hd v _ => hd.keyOff v
  · exact h.setReg k b

theorem Dsp.VoicesOk.nextBlock {d : Dsp} (h : d.VoicesOk) (ram : Memory) (v : Fin 8) : (nextBlock ram v d).VoicesOk := by
  obtain ⟨h0, h1, hp⟩ := h v
  have decoded (a : Addr) : (decodeBlock ram { d.voice v with curAddr := a }).Ok := Voice.Ok.decodeBlock ⟨h0, h1, hp⟩ ram
  dsimp only [Machine.nextBlock]
  split_ifs
  · exact (h.setReg _ _).setVoice v (decoded _)
  · exact (h.setReg _ _).setVoice v ⟨le_rfl, by simp, hp⟩
  · exact h.setVoice v (decoded _)

/-- A pitch is below 0x4000: six bits and eight (R333). -/
theorem Dsp.pitch_lt (d : Dsp) (v : Fin 8) : d.pitch v < 0x4000 := by
  have hi := ((d.reg (voiceReg v 3)).extractLsb' 0 6 : BitVec 6).isLt
  have lo := (d.reg (voiceReg v 2)).isLt
  unfold Dsp.pitch
  omega

/-- The accumulator is taken back below 0x10000 where the pitch has carried it past (R332). -/
theorem Dsp.VoicesOk.pitchStep {d : Dsp} (h : d.VoicesOk) (ram : Memory) (v : Fin 8) : (pitchStep ram v d).VoicesOk := by
  obtain ⟨h0, h1, hp⟩ := h v
  have hpitch := d.pitch_lt v
  have stepped {n : Nat} (hn : n < 0x10000) : Voice.Ok { d.voice v with pitchCounter := n } := ⟨h0, h1, hn⟩
  dsimp only [Machine.pitchStep]
  split_ifs with hc
  · exact (h.setVoice v (stepped (by omega))).nextBlock ram v
  · exact h.setVoice v (stepped (by omega))

/-- An exponential decay step of a legal envelope is no larger than the envelope, nor negative (R336). -/
theorem envDec_bounds {e : Int} (h : 0 ≤ e) : 0 ≤ envDec e ∧ envDec e ≤ e := by
  unfold envDec asr
  omega

/-- A voice is legal with any envelope in 0 to 2047, where its accumulator is that of a legal voice (R26). -/
theorem Voice.Ok.of_env {x y : Voice} (h : x.Ok) (hp : y.pitchCounter = x.pitchCounter) (h0 : 0 ≤ y.env) (h1 : y.env ≤ 2047) :
    y.Ok := ⟨h0, h1, hp ▸ h.2.2⟩

theorem clamp_env_bounds (e : Int) : 0 ≤ clamp e 0 2047 ∧ clamp e 0 2047 ≤ 2047 := by
  rw [clamp_env_eq]
  omega

theorem Voice.Ok.envRelease {x : Voice} (h : x.Ok) : (envRelease x).Ok := by
  obtain ⟨h0, h1, -⟩ := id h
  dsimp only [Machine.envRelease]
  split_ifs <;> exact h.of_env rfl (by dsimp only; omega) (by dsimp only; omega)

theorem Voice.Ok.envAdsr {x : Voice} (h : x.Ok) (T : DspTables) (n : Nat) (a1 a2 : Byte) : (envAdsr T n a1 a2 x).Ok := by
  obtain ⟨h0, h1, -⟩ := id h
  obtain ⟨hd0, hd1⟩ := envDec_bounds h0
  unfold Machine.envAdsr
  cases x.phase with
  | attack => dsimp only; split_ifs <;> exact h.of_env rfl (by dsimp only; omega) (by dsimp only; omega)
  | decay => dsimp only; split_ifs <;> exact h.of_env rfl (by dsimp only; omega) (by dsimp only; omega)
  | sustain =>
    dsimp only
    split_ifs
    · exact h.of_env rfl (by dsimp only; omega) (by dsimp only; omega)
    · exact h
  | release => exact h

theorem Voice.Ok.envGain {x : Voice} (h : x.Ok) (T : DspTables) (n : Nat) (g : Byte) : (envGain T n g x).Ok := by
  dsimp only [Machine.envGain]
  split <;> exact h.of_env rfl (clamp_env_bounds _).1 (clamp_env_bounds _).2

/-- An envelope step keeps the envelope in 0 to 2047, whatever the tables hold (R336). -/
theorem Voice.Ok.envStep {x : Voice} (h : x.Ok) (T : DspTables) (n : Nat) (a1 a2 g : Byte) : (envStep T n a1 a2 g x).Ok := by
  unfold Machine.envStep
  split_ifs
  · exact h.envRelease
  · exact h.envAdsr T n a1 a2
  · exact h
  · exact h.envGain T n g
  · exact h
  · have hg := (g.extractLsb' 0 7 : BitVec 7).isLt
    exact h.of_env rfl (by dsimp only; omega) (by dsimp only; omega)

theorem Dsp.VoicesOk.voiceStep {d : Dsp} (h : d.VoicesOk) (T : DspTables) (ram : Memory) (n : Nat) (v : Fin 8) :
    (voiceStep T ram n v d).1.VoicesOk := by
  have hd := h.pitchStep ram v
  have hx (w : Vector Int 3) : Voice.Ok { (Machine.pitchStep ram v d).voice v with prevInterp := w } := hd v
  dsimp only [Machine.voiceStep]
  exact ((hd.setVoice v ((hx _).envStep T n _ _ _)).setReg _ _).setReg _ _

/-- A sample keeps every voice legal, for any tables (R331). -/
theorem Dsp.VoicesOk.dspSample {d : Dsp} (h : d.VoicesOk) (T : DspTables) (ram : Memory) (n : Nat) :
    (dspSample T ram n d).1.VoicesOk := by
  have turn (m : MixState) (v : Fin 8) (hm : m.dsp.VoicesOk) : (mixVoice T ram n m v).dsp.VoicesOk := by
    unfold mixVoice
    split
    · exact hm.voiceStep T ram n v
    · exact hm
  dsimp only [Machine.dspSample]
  exact List.foldlRecOn (motive := fun m : MixState => m.dsp.VoicesOk) voiceIds _ h fun m hm v _ => turn m v hm

theorem State.voicesOk_memWrite {s : State} (h : s.VoicesOk) (a : Addr) (v : Byte) : (s.memWrite a v).VoicesOk := by
  rcases s.memWrite_cases a v with ⟨-, e⟩ | ⟨-, e⟩ | ⟨-, e⟩ | ⟨-, e⟩ | ⟨-, -, -, -, e⟩ <;> rw [e]
  case inr.inr.inl => exact Dsp.VoicesOk.dspWrite h _ _ _ _
  all_goals exact h

theorem State.voicesOk_produceSample (s : State) (h : s.VoicesOk) : s.produceSample.VoicesOk := by
  intro v
  dsimp only [State.produceSample]
  exact Dsp.VoicesOk.dspSample (d := s.dsp) h _ _ _ v

/-- Settles O12: a write to the DSP starts or releases voices, a sample steps pitch and envelope, and each keeps the bounds. -/
theorem stepKeepsVoices : Obligations.StepKeepsVoices := by
  intro s t
  refine step_keeps (P := State.VoicesOk) (fun _ _ => id) ?_ (fun _ => id)
    State.voicesOk_produceSample
  intro i u v _ hx
  refine (Performs.of_exec hx).keeps fun m h => ?_
  cases m with
  | write a v => exact State.voicesOk_memWrite h a v
  | reg r v => cases r <;> exact h
  | read | nz | vh | c | p | b | i | draw | halt | goto | raise => exact h

/-! ### fault_info and the run state (10_state.md R20) -/

/-- Settles O14: an instruction of a running CPU raises, and sets both, or keeps `fault_info` and does not enter `faulted`. -/
theorem stepKeepsFaultInfo : Obligations.StepKeepsFaultInfo := by
  intro s t
  refine step_keeps (P := State.FaultOk) (fun _ _ => id) ?_ (fun _ => id)
    (fun u h => by simpa only [State.FaultOk, State.produceSample_faultInfo, State.produceSample_run] using h)
  intro i u v hr hx h
  cases Completion.of_exec hx with
  | raises => simp [State.FaultOk]
  | ends w taken target he =>
    cases he with
    | keeps hw => simp_all [State.control, State.FaultOk]
    | draws _ n hw => simp_all [State.control, State.FaultOk]
    | halts _ hw => simp_all [State.control, State.FaultOk]

/-! ### A step exists; what it puts out -/

/-- Settles O6: every instruction completes, so a running CPU steps; the other two run states answer their faults. -/
theorem stepExists : Obligations.StepExists := by
  refine ⟨fun i s => ?_, fun s hr => ?_, fun s hr => by simp [step, hr], fun s hr => by simp [step, hr]⟩
  · obtain ⟨t, ht, -⟩ := exec_completes i s
    exact ⟨t, ht⟩
  · obtain ⟨t, ht, -⟩ := exec_completes s.fetched s.afterFetch
    exact ⟨t.endStep, by simp [step, hr, ht]⟩

/-- `u` has the output of `s` and new pairs after it, one for each sample it has counted since (10_state.md R27). -/
def State.Extends (s u : State) : Prop :=
  ∃ new : List Sample, u.out = s.out ++ new ∧ u.sampleCounter = s.sampleCounter + new.length

theorem State.Extends.refl (s : State) : s.Extends s := ⟨[], by simp⟩

/-- A sample appends its pair and counts itself (60_exceptions.md R312). -/
theorem State.Extends.produceSample {s u : State} (h : s.Extends u) : s.Extends u.produceSample := by
  obtain ⟨new, ho, hc⟩ := h
  refine ⟨new ++ [(dspSample Config.tables u.ram u.sampleCounter u.dsp).2], ?_, ?_⟩
  · dsimp only [State.produceSample]
    rw [ho, List.append_assoc]
  · simp [hc]
    omega

/-- Settles O9: only a sample touches the output and its count. -/
theorem outputsAppend : Obligations.OutputsAppend := by
  intro s t
  refine step_keeps (P := s.Extends) (fun _ _ => id) ?_ (fun _ => id) (fun _ h => h.produceSample) (.refl s)
  intro i u v _ hx ⟨new, ho, hc⟩
  obtain ⟨-, hcount, -, hout, -⟩ := controlFrame i u v hx
  exact ⟨new, hout.trans ho, hcount.trans hc⟩

/-! ### Launch (10_state.md R29; 70_reset_and_hazards.md R340, R341) -/

theorem State.launch_timer (p : Params) (k : Snapshot) (j : Fin 3) : (State.launch p k).timers.get j = Timer.off := by
  simp [State.launch, Vector.get_eq_getElem]

theorem State.launch_voice (p : Params) (k : Snapshot) (v : Fin 8) : (State.launch p k).dsp.voice v = Voice.off := by
  simp [State.launch, Dsp.voice, Vector.get_eq_getElem]

/-- The launch from a snapshot with a canonical RAM meets every invariant. -/
theorem State.launch_inv (p : Params) {k : Snapshot} (h : k.ram.wf = true) : (State.launch p k).Inv where
  memory := h
  timers j _ := State.launch_timer p k j
  voices v := by rw [State.launch_voice]; exact .off
  scheduler := by simp [State.SchedulerOk, State.launch]
  fault := by simp [State.FaultOk, State.launch]

/-- A write through the fabric keeps every invariant (20_memory.md R32). -/
theorem State.Inv.memWrite {s : State} (h : s.Inv) (a : Addr) (v : Byte) : (s.memWrite a v).Inv where
  memory := State.memWrite_wf h.memory a v
  timers := State.timersOk_memWrite h.timers a v
  voices := State.voicesOk_memWrite h.voices a v
  scheduler := by simpa [State.SchedulerOk] using h.scheduler
  fault := by simpa [State.FaultOk] using h.fault

/-- So do the host's writes before the first step (R341). -/
theorem State.Inv.hostWrites {s : State} (h : s.Inv) (ws : List (Addr × Byte)) : (s.hostWrites ws).Inv :=
  List.foldlRecOn ws _ h fun _ hs w _ => hs.memWrite w.1 w.2

/-- Settles O16: the launch meets the invariants and each host write keeps them. -/
theorem launchMeetsInvariants : Obligations.LaunchMeetsInvariants := by
  intro p k ws h
  refine ⟨(State.launch_inv p h).hostWrites ws, rfl, ?_, State.launch_timer p k, State.launch_voice p k, rfl, rfl, rfl⟩
  exact BitVec.toNat_setWidth 7 _

/-- The reset state is the launch from the all-zero snapshot. -/
theorem State.reset_eq_launch : State.reset = State.launch Params.default Snapshot.zero := rfl

/-- Settles O15: the reset state is a launch, and a launch meets the invariants. -/
theorem resetMeetsInvariants : Obligations.ResetMeetsInvariants :=
  ⟨State.reset_eq_launch, State.reset_eq_launch ▸ State.launch_inv Params.default rfl⟩

end Sys2Proof.Machine
end

section
/-! PROOF (O17, O18). What the micro-operations of an instruction leave: a register and a flag change only by its own writes. -/

namespace Sys2Proof.Machine

theorem State.reg_setReg_other {q r : Reg} (h : r ≠ q) (s : State) (v : Byte) : (s.setReg q v).reg r = s.reg r := by
  cases q <;> cases r <;> simp_all [State.setReg, State.reg]

@[simp] theorem State.psw_setReg (s : State) (r : Reg) (v : Byte) : (s.setReg r v).psw = s.psw := by cases r <;> rfl

@[simp] theorem State.reg_memWrite (s : State) (a : Addr) (v : Byte) (r : Reg) : (s.memWrite a v).reg r = s.reg r := by
  cases r <;> simp [State.reg]

/-- A micro-operation writes a register only where R16 names its instruction. -/
theorem MicroOp.keeps_reg {i : Instr} {r : Reg} (hw : i.writes r = false) {s t : State} (m : MicroOp i s t) :
    t.reg r = s.reg r := by
  cases m with
  | write a v => exact s.reg_memWrite a v r
  | reg q v h => exact State.reg_setReg_other (by rintro rfl; simp [h] at hw) s v
  | read | nz | vh | c | p | b | i | draw | halt | goto | raise => cases r <;> rfl

/-- Settles O17: no micro-operation of the instruction writes the register. -/
theorem registerFrame : Obligations.RegisterFrame := by
  intro i s t r hx hw
  exact (Performs.of_exec hx).keeps (P := fun u => u.reg r = s.reg r) (fun m h => (m.keeps_reg hw).trans h) rfl

/-- The clauses of the flag frame, between two states (10_state.md R19). -/
structure KeepsFlags (i : Instr) (s t : State) : Prop where
  nz : i.writesNZ = false → t.psw.n = s.psw.n ∧ t.psw.z = s.psw.z
  vh : i.writesVH = false → t.psw.v = s.psw.v ∧ t.psw.h = s.psw.h
  c : i.writesC = false → t.psw.c = s.psw.c
  p : i.writesP = false → t.psw.p = s.psw.p
  b : i.writesB = false → t.psw.b = s.psw.b
  i : i.writesI = false → t.psw.i = s.psw.i

theorem KeepsFlags.of_psw {i : Instr} {s t : State} (h : t.psw = s.psw) : KeepsFlags i s t := by
  constructor <;> simp [h]

theorem KeepsFlags.trans {i : Instr} {s t u : State} (h : KeepsFlags i s t) (k : KeepsFlags i t u) : KeepsFlags i s u where
  nz hw := ⟨(k.nz hw).1.trans (h.nz hw).1, (k.nz hw).2.trans (h.nz hw).2⟩
  vh hw := ⟨(k.vh hw).1.trans (h.vh hw).1, (k.vh hw).2.trans (h.vh hw).2⟩
  c hw := (k.c hw).trans (h.c hw)
  p hw := (k.p hw).trans (h.p hw)
  b hw := (k.b hw).trans (h.b hw)
  i hw := (k.i hw).trans (h.i hw)

/-- A micro-operation writes one group of flags, which R19 gives its instruction, or none. -/
theorem MicroOp.keepsFlags {i : Instr} {s t : State} (m : MicroOp i s t) : KeepsFlags i s t := by
  cases m with
  | nz _ _ h | vh _ _ h | c _ h | p _ h | b _ h | i _ h => constructor <;> simp [h]
  | write a v => exact .of_psw (s.memWrite_psw a v)
  | reg r v => exact .of_psw (s.psw_setReg r v)
  | read | draw | halt | goto | raise => exact .of_psw rfl

/-- Settles O18: each micro-operation of the instruction keeps the six clauses, so they hold from its start to its end. -/
theorem flagFrame : Obligations.FlagFrame := by
  intro i s t hx
  obtain ⟨nz, vh, c, p, b, j⟩ :=
    (Performs.of_exec hx).keeps (P := KeepsFlags i s) (fun m h => h.trans m.keepsFlags) (.of_psw rfl)
  exact ⟨nz, vh, c, p, b, j⟩

end Sys2Proof.Machine
end

section
/-! PROOF (O22). B and I are inert: an operation run on a state with other values of the two flags gives what it gave, with those
values (10_state.md R18, R19; 60_exceptions.md R305). -/

namespace Sys2Proof.Machine

/-- The state with the flags B and I replaced. -/
def State.withBI (s : State) (b j : Bool) : State := { s with psw := { s.psw with b := b, i := j } }

section
variable (s : State) (b j : Bool)

/-! ### What is read of a state: no register, flag, address or byte depends on B and I -/

@[simp] theorem State.withBI_a : (s.withBI b j).a = s.a := rfl
@[simp] theorem State.withBI_x : (s.withBI b j).x = s.x := rfl
@[simp] theorem State.withBI_y : (s.withBI b j).y = s.y := rfl
@[simp] theorem State.withBI_sp : (s.withBI b j).sp = s.sp := rfl
@[simp] theorem State.withBI_params : (s.withBI b j).params = s.params := rfl
@[simp] theorem State.withBI_nFlag : (s.withBI b j).psw.n = s.psw.n := rfl
@[simp] theorem State.withBI_vFlag : (s.withBI b j).psw.v = s.psw.v := rfl
@[simp] theorem State.withBI_zFlag : (s.withBI b j).psw.z = s.psw.z := rfl
@[simp] theorem State.withBI_cFlag : (s.withBI b j).psw.c = s.psw.c := rfl
@[simp] theorem State.peek_withBI (a : Addr) : (s.withBI b j).peek a = s.peek a := rfl
@[simp] theorem State.peekWord_withBI (a : Addr) : (s.withBI b j).peekWord a = s.peekWord a := rfl
@[simp] theorem State.dp_withBI (o : Byte) : (s.withBI b j).dp o = s.dp o := rfl
@[simp] theorem State.dphi_withBI (o : Byte) : (s.withBI b j).dphi o = s.dphi o := rfl
@[simp] theorem State.dpWord_withBI (o : Byte) : (s.withBI b j).dpWord o = s.dpWord o := rfl
@[simp] theorem State.ya_withBI : (s.withBI b j).ya = s.ya := rfl
@[simp] theorem State.nextPc_withBI (i : Instr) : (s.withBI b j).nextPc i = s.nextPc i := rfl
@[simp] theorem State.jmpPointer_withBI (a : Addr) : (s.withBI b j).jmpPointer a = s.jmpPointer a := rfl
@[simp] theorem State.memBit_withBI (m : Addr) (k : BitVec 3) : (s.withBI b j).memBit m k = s.memBit m k := rfl

@[simp] theorem Loc.addr_withBI (l : Loc) : l.addr (s.withBI b j) = l.addr s := by cases l <;> rfl
@[simp] theorem Loc.value_withBI (l : Loc) : l.value (s.withBI b j) = l.value s := by cases l <;> rfl
@[simp] theorem Src.value_withBI (o : Src) : o.value (s.withBI b j) = o.value s := by
  cases o with
  | imm v => rfl
  | mem l => exact l.value_withBI s b j

/-! ### Accesses, the stack and the end of an instruction -/

@[simp] theorem State.touch_withBI (a : Addr) : (s.withBI b j).touch a = (s.touch a).withBI b j := rfl
@[simp] theorem State.touchWord_withBI (a : Addr) : (s.withBI b j).touchWord a = (s.touchWord a).withBI b j := rfl
@[simp] theorem State.touchDpWord_withBI (o : Byte) : (s.withBI b j).touchDpWord o = (s.touchDpWord o).withBI b j := rfl
@[simp] theorem State.memWrite_withBI (a : Addr) (v : Byte) : (s.withBI b j).memWrite a v = (s.memWrite a v).withBI b j := by
  simp [State.withBI, State.memWrite_with_psw]
@[simp] theorem State.dpWordWrite_withBI (o : Byte) (w : Addr) :
    (s.withBI b j).dpWordWrite o w = (s.dpWordWrite o w).withBI b j := by
  simp [State.dpWordWrite]
@[simp] theorem State.push_withBI (v : Byte) : (s.withBI b j).push v = (s.push v).withBI b j := by
  rw [State.push_eq, State.push_eq]
  rfl
@[simp] theorem State.pushWord_withBI (w : Addr) :
    (s.withBI b j).pushWord w = (s.pushWord w).withBI b j := by
  simp [State.pushWord]
@[simp] theorem State.goto_withBI (i : Instr) (k : Bool) (a : Addr) :
    (s.withBI b j).goto i k a = (s.goto i k a).withBI b j := rfl
@[simp] theorem State.advance_withBI (i : Instr) : (s.withBI b j).advance i = (s.advance i).withBI b j := rfl
@[simp] theorem State.branch_withBI (i : Instr) (k : Bool) (r : Byte) :
    (s.withBI b j).branch i k r = (s.branch i k r).withBI b j := rfl
@[simp] theorem State.halt_withBI : (s.withBI b j).halt = s.halt.withBI b j := rfl
@[simp] theorem State.tierE_withBI (i : Instr) (t : State) :
    (s.withBI b j).tierE i (t.withBI b j) = (s.tierE i t).withBI b j := by
  unfold State.tierE
  rw [apply_ite (State.withBI · b j)]
  rfl
@[simp] theorem Loc.walk_withBI (l : Loc) : l.walk (s.withBI b j) = (l.walk s).withBI b j := by cases l <;> rfl
@[simp] theorem Loc.after_withBI (l : Loc) : l.after (s.withBI b j) = (l.after s).withBI b j := by cases l <;> rfl
@[simp] theorem Src.after_withBI (o : Src) : o.after (s.withBI b j) = (o.after s).withBI b j := by
  cases o with
  | imm v => rfl
  | mem l => exact l.after_withBI s b j
@[simp] theorem Loc.store_withBI (l : Loc) (v : Byte) : l.store v (s.withBI b j) = (l.store v s).withBI b j := by
  simp [Loc.store]

/-! ### Flags and registers -/

@[simp] theorem State.setNZ8_withBI (v : Byte) : (s.withBI b j).setNZ8 v = (s.setNZ8 v).withBI b j := rfl
@[simp] theorem State.setNZ16_withBI (w : Addr) : (s.withBI b j).setNZ16 w = (s.setNZ16 w).withBI b j := rfl
@[simp] theorem State.setYA_withBI (w : Addr) : (s.withBI b j).setYA w = (s.setYA w).withBI b j := rfl
@[simp] theorem State.moveToA_withBI (v : Byte) : (s.withBI b j).moveToA v = (s.moveToA v).withBI b j := rfl
@[simp] theorem State.moveToX_withBI (v : Byte) : (s.withBI b j).moveToX v = (s.moveToX v).withBI b j := rfl
@[simp] theorem State.moveToY_withBI (v : Byte) : (s.withBI b j).moveToY v = (s.moveToY v).withBI b j := rfl
@[simp] theorem State.loadA_withBI (o : Src) : (s.withBI b j).loadA o = (s.loadA o).withBI b j := by simp [State.loadA]
@[simp] theorem State.loadX_withBI (o : Src) : (s.withBI b j).loadX o = (s.loadX o).withBI b j := by simp [State.loadX]
@[simp] theorem State.loadY_withBI (o : Src) : (s.withBI b j).loadY o = (s.loadY o).withBI b j := by simp [State.loadY]
@[simp] theorem State.stepX_withBI : (s.withBI b j).stepX = s.stepX.withBI b j := rfl
@[simp] theorem cmp8_withBI (x m : Byte) : cmp8 x m (s.withBI b j) = (cmp8 x m s).withBI b j := rfl
@[simp] theorem State.cmpReg_withBI (x : Byte) (o : Src) :
    (s.withBI b j).cmpReg x o = (s.cmpReg x o).withBI b j := by
  simp [State.cmpReg]
@[simp] theorem State.cmpMem_withBI (l : Loc) (o : Src) :
    (s.withBI b j).cmpMem l o = (s.cmpMem l o).withBI b j := by
  simp [State.cmpMem]
@[simp] theorem State.modifyDpWord_withBI (d : Byte) (w : Addr) :
    (s.withBI b j).modifyDpWord d w = (s.modifyDpWord d w).withBI b j := by
  simp [State.modifyDpWord]
@[simp] theorem State.addYA_withBI (w : Addr) : (s.withBI b j).addYA w = (s.addYA w).withBI b j := rfl
@[simp] theorem State.subYA_withBI (w : Addr) : (s.withBI b j).subYA w = (s.subYA w).withBI b j := rfl
@[simp] theorem State.cmpYA_withBI (w : Addr) : (s.withBI b j).cmpYA w = (s.cmpYA w).withBI b j := rfl
@[simp] theorem State.mulYA_withBI : (s.withBI b j).mulYA = s.mulYA.withBI b j := rfl
@[simp] theorem State.daa_withBI : (s.withBI b j).daa = s.daa.withBI b j := rfl
@[simp] theorem State.das_withBI : (s.withBI b j).das = s.das.withBI b j := rfl
@[simp] theorem State.clearV_withBI : (s.withBI b j).clearV = s.clearV.withBI b j := rfl
@[simp] theorem State.divYA_withBI : (s.withBI b j).divYA = s.divYA.withBI b j := by
  dsimp only [State.divYA]
  rw [apply_ite (State.withBI · b j)]
  rfl
@[simp] theorem State.carryFromBit_withBI (m : Addr) (c : Bool) :
    (s.withBI b j).carryFromBit m c = (s.carryFromBit m c).withBI b j := rfl

end

/-! ### Operations on bytes, and what is done by one -/

/-- A byte operation is inert where its result and the rest of its state do not depend on B and I. -/
def InertByte (f : Byte → State → Byte × State) : Prop :=
  ∀ v s b j, f v (s.withBI b j) = ((f v s).1, (f v s).2.withBI b j)

@[simp] theorem InertByte.or8 (x : Byte) : InertByte (or8 x) := fun _ _ _ _ => rfl
@[simp] theorem InertByte.and8 (x : Byte) : InertByte (and8 x) := fun _ _ _ _ => rfl
@[simp] theorem InertByte.eor8 (x : Byte) : InertByte (eor8 x) := fun _ _ _ _ => rfl
@[simp] theorem InertByte.adc8 (x : Byte) : InertByte (adc8 x) := fun _ _ _ _ => rfl
@[simp] theorem InertByte.sbc8 (x : Byte) : InertByte (sbc8 x) := fun _ _ _ _ => rfl
@[simp] theorem InertByte.asl8 : InertByte asl8 := fun _ _ _ _ => rfl
@[simp] theorem InertByte.lsr8 : InertByte lsr8 := fun _ _ _ _ => rfl
@[simp] theorem InertByte.rol8 : InertByte rol8 := fun _ _ _ _ => rfl
@[simp] theorem InertByte.ror8 : InertByte ror8 := fun _ _ _ _ => rfl
@[simp] theorem InertByte.inc8 : InertByte inc8 := fun _ _ _ _ => rfl
@[simp] theorem InertByte.dec8 : InertByte dec8 := fun _ _ _ _ => rfl
@[simp] theorem InertByte.testSet : InertByte testSet := fun _ _ _ _ => rfl
@[simp] theorem InertByte.testClear : InertByte testClear := fun _ _ _ _ => rfl
@[simp] theorem InertByte.decrement : InertByte decrement := fun _ _ _ _ => rfl
@[simp] theorem InertByte.setBit (k : BitVec 3) : InertByte (setBit k) := fun _ _ _ _ => rfl
@[simp] theorem InertByte.clearBit (k : BitVec 3) : InertByte (clearBit k) := fun _ _ _ _ => rfl
@[simp] theorem InertByte.flipBit (k : BitVec 3) : InertByte (flipBit k) := fun _ _ _ _ => rfl
@[simp] theorem InertByte.carryToBit (k : BitVec 3) : InertByte (carryToBit k) := fun _ _ _ _ => rfl

section
variable (s : State) (b j : Bool)

@[simp] theorem Loc.modify_withBI (l : Loc) {f : Byte → State → Byte × State} (hf : InertByte f) :
    l.modify f (s.withBI b j) = (l.modify f s).withBI b j := by
  simp [Loc.modify, hf _ _ b j]
@[simp] theorem State.aluMem_withBI {f : Byte → Byte → State → Byte × State} (hf : ∀ x, InertByte (f x)) (l : Loc)
    (o : Src) : (s.withBI b j).aluMem f l o = (s.aluMem f l o).withBI b j := by
  have hg : InertByte fun t => f t (o.value s) := fun t u => hf t (o.value s) u
  simp [State.aluMem, hg]
@[simp] theorem State.aluA_withBI {f : Byte → Byte → State → Byte × State} (hf : ∀ x, InertByte (f x)) (o : Src) :
    (s.withBI b j).aluA f o = (s.aluA f o).withBI b j := by
  dsimp only [State.aluA]
  rw [Src.value_withBI, Src.after_withBI, State.withBI_a, hf]
  rfl
@[simp] theorem State.modifyA_withBI {f : Byte → State → Byte × State} (hf : InertByte f) :
    (s.withBI b j).modifyA f = (s.modifyA f).withBI b j := by
  dsimp only [State.modifyA, State.withBI_a]
  rw [hf]
  rfl
@[simp] theorem State.modifyX_withBI {f : Byte → State → Byte × State} (hf : InertByte f) :
    (s.withBI b j).modifyX f = (s.modifyX f).withBI b j := by
  dsimp only [State.modifyX, State.withBI_x]
  rw [hf]
  rfl
@[simp] theorem State.modifyY_withBI {f : Byte → State → Byte × State} (hf : InertByte f) :
    (s.withBI b j).modifyY f = (s.modifyY f).withBI b j := by
  dsimp only [State.modifyY, State.withBI_y]
  rw [hf]
  rfl

end

/-! ### Every instruction but PUSH PSW and BRK -/

/-- Where an instruction commutes with the change of B and I, its two next states agree in everything else. -/
theorem State.withBI_back {t u : State} (b j : Bool) (h : u = t.withBI b j) : u.withBI t.psw.b t.psw.i = t := by
  subst h
  rfl

/-- An instruction that neither pushes PSW nor breaks does the same whatever B and I are: most commute with the change, and POP
PSW, RETI, EI and DI write the flags they would otherwise keep. -/
theorem exec_inert {i : Instr} (hp : i ≠ .pushPsw) (hb : i ≠ .brk) (s : State) (b j : Bool) :
    ∃ t u, exec i s = .next t ∧ exec i (s.withBI b j) = .next u ∧ u.withBI t.psw.b t.psw.i = t := by
  cases i
  case pushPsw => exact absurd rfl hp
  case brk => exact absurd rfl hb
  case popPsw | ei | di => exact ⟨_, _, rfl, rfl, rfl⟩
  case reti =>
    refine ⟨_, _, rfl, rfl, ?_⟩
    unfold State.tierE
    rw [State.withBI_params]
    split <;> rfl
  -- these write their registers and flags without a named operation
  case movSpX | popA | popX | popY | dbnzY | ret | clrp | setp | clrc | setc | notc =>
    exact ⟨_, _, rfl, rfl, State.withBI_back b j rfl⟩
  case tcall n => exact ⟨_, _, rfl, rfl, State.withBI_back b j (by simp [State.tableCall])⟩
  all_goals exact ⟨_, _, rfl, rfl, State.withBI_back b j (by simp)⟩

/-- Settles O22: the two next states are those of `exec_inert`. -/
theorem inertFlags : Obligations.InertFlags := by
  intro i s t u b j hp hb ht hu
  obtain ⟨t', u', ht', hu', h⟩ := exec_inert hp hb s b j
  obtain rfl := Host.Outcome.next.inj (ht.symm.trans ht')
  obtain rfl := Host.Outcome.next.inj (hu.symm.trans hu')
  exact h

end Sys2Proof.Machine
end

section
/-! PROOF (O24 to O29). The memory fabric: what a read and a write of each kind of address do, the stack, and the effective
addresses on naturals (20_memory.md R31 to R52). -/

namespace Sys2Proof.Machine

/-! ### Plain addresses -/

/-- No plain address is a counter's (20_memory.md R31). -/
theorem counterAt_of_plain {a : Addr} (h : PlainAddr a) : counterAt a = none := by
  obtain ⟨-, hd, he, hf⟩ := h
  simp [counterAt, hd, he, hf]

/-- A read of a plain address gives the RAM byte (R31). -/
theorem State.peek_of_plain (s : State) {a : Addr} (h : PlainAddr a) : s.peek a = s.ram.read a :=
  State.peek_ram h.1 (counterAt_of_plain h)

/-- A write at a plain address stores the byte in RAM, whatever else it does (R32). -/
theorem State.memWrite_ram_of_plain (s : State) {a : Addr} (h : PlainAddr a) (v : Byte) :
    (s.memWrite a v).ram = s.ram.write a v := by
  rcases s.memWrite_cases a v with ⟨-, e⟩ | ⟨-, e⟩ | ⟨hdsp, -⟩ | ⟨hcounter, -⟩ | ⟨-, -, -, -, e⟩
  · rw [e]
  · rw [e]
  · exact absurd hdsp h.1
  · simp [counterAt_of_plain h] at hcounter
  · rw [e]

/-- Settles O24: at plain addresses the fabric is RAM, and RAM reads back what was written. -/
theorem readAfterWrite : Obligations.ReadAfterWrite := by
  intro s a b v hm ha hb
  constructor
  · rw [State.peek_of_plain _ ha, s.memWrite_ram_of_plain ha, Memory.read_write_same hm]
  · intro hne
    rw [State.peek_of_plain _ hb, State.peek_of_plain _ hb, s.memWrite_read_other hne]

/-! ### The register window -/

/-- The address of timer `j`'s counter is 0x00FD plus its number (10_state.md R22). -/
@[simp] theorem counterAt_counter (j : Fin 3) : counterAt (0x00FD#16 + BitVec.ofNat 16 j.val) = some j := by
  revert j
  decide

/-- Settles O25. -/
theorem windowReads : Obligations.WindowReads := by
  intro s
  refine ⟨s.peek_dsp, State.touch_of_not_counter (by decide), fun j => ⟨?_, ?_, ?_⟩, fun a ha => ⟨?_, ?_⟩⟩
  · exact State.peek_counter (counterAt_counter j)
  · simp only [State.touch, clearCounter, counterAt_counter]
  · intro hoff hdis
    rw [State.peek_counter (counterAt_counter j), hoff j hdis]
    rfl
  · exact s.peek_of_plain ha
  · exact State.touch_of_not_counter (counterAt_of_plain ha)

/-- A write to Control does not reach the divisor latches: they lie above it (R32, R316). -/
theorem Memory.read_divisor_write_control (m : Memory) (v : Byte) (j : Fin 3) :
    (m.write 0x00F1#16 v).read (divisorAddr j) = m.read (0x00FA#16 + BitVec.ofNat 16 j.val) :=
  m.read_write_other (by revert j; decide) v

/-- What a write to Control makes of the three timers, timer by timer (R32, R316, R317). -/
theorem controlTimers_eq_ofFn (ram : Memory) (cycle : Nat) (v : Byte) :
    controlTimers ram cycle v = Vector.ofFn fun j : Fin 3 => controlTimer ram cycle v j := by
  simp [controlTimers, Vector.ofFn_succ]

/-- Settles O26. -/
theorem windowWrites : Obligations.WindowWrites := by
  intro s v
  refine ⟨?_, ?_, rfl, rfl, rfl, rfl, fun a ha h1 h2 => State.memWrite_ram h1 h2 ha.1 (counterAt_of_plain ha) v⟩
  · simp only [State.memWrite, controlTimers_eq_ofFn, controlTimer, Timer.enable, Timer.off, period,
      Memory.read_divisor_write_control]
    rfl
  · have hlow : v.setWidth 7 = BitVec.ofNat 7 (v.toNat % 128) := BitVec.eq_of_toNat_eq (by simp)
    rw [← hlow]
    rfl

/-! ### The stack -/

/-- Settles O27. -/
theorem pushPop : Obligations.PushPop := by
  intro s v
  refine ⟨rfl, rfl, s.popped_eq, fun hm => ⟨?_, by simp⟩⟩
  rw [State.popValue_eq, State.push_eq]
  simp [Memory.read_write_same hm]

/-! ### Effective addresses on naturals -/

/-- `dp(o)` on naturals: the page by P plus the offset (R40). -/
theorem State.dp_toNat (s : State) (o : Byte) : (s.dp o).toNat = (if s.psw.p then 0x0100 else 0x0000) + o.toNat := by
  unfold State.dp
  split <;> simp <;> omega

/-- An index added to an address, modulo 65536 (R50, R52). -/
theorem addIndex_toNat (a : Addr) (k : Byte) : (a + k.setWidth 16).toNat = (a.toNat + k.toNat) % 65536 := by
  simp

/-- The high byte's address where DP_WORD_WRAP is linear: the next address, which may lie in the next page (R41). -/
theorem State.dphi_toNat_linear {s : State} (h : s.params.dpWordWrap = .linear) (o : Byte) :
    (s.dphi o).toNat = (s.dp o).toNat + 1 := by
  have hdp : (s.dp o).toNat < 0x0200 := by rw [s.dp_toNat]; split <;> omega
  simp [State.dphi, h]
  omega

/-- The high byte's address where DP_WORD_WRAP is page: the next offset, in the same page (R41). -/
theorem State.dphi_toNat_page {s : State} (h : s.params.dpWordWrap = .page) (o : Byte) :
    (s.dphi o).toNat = (if s.psw.p then 0x0100 else 0x0000) + (o.toNat + 1) % 256 := by
  simp [State.dphi, h, State.dp_toNat]

/-- Settles O28: each form is `dp` of an offset, and the offset's addition is modulo 256. -/
theorem directPage : Obligations.DirectPage := fun s o =>
  ⟨s.dp_toNat o, s.dp_toNat o, s.dp_toNat (o + s.x), s.dp_toNat (o + s.y)⟩

/-- Settles O29. -/
theorem operandAddresses : Obligations.OperandAddresses := by
  intro s d a
  refine ⟨?_, (State.dphi_toNat_linear · d), (State.dphi_toNat_page · d), s.dp_toNat s.x, s.dp_toNat s.y, rfl,
    addIndex_toNat a s.x, addIndex_toNat a s.y, rfl, addIndex_toNat (s.dpWord d) s.y⟩
  rw [State.dpWord, wordOf_toNat]
  omega

end Sys2Proof.Machine
end

section
/-! PROOF (O19, O20). What an instruction does to memory and the devices behind it: it reads the addresses of `Instr.readsFrom`
and stores to those of `Instr.storesTo`, in that state, and nothing else reaches RAM, the DSP index, the DSP or the timers. -/

namespace Sys2Proof.Machine

/-- What the memory fabric reaches: RAM and the devices of the register window (20_memory.md R30 to R32). -/
structure Bus where
  ram : Memory
  dspAddr : BitVec 7
  timers : Vector Timer 3
  dsp : Dsp

/-- The memory side of a state. -/
def State.bus (s : State) : Bus := { ram := s.ram, dspAddr := s.dspAddr, timers := s.timers, dsp := s.dsp }

/-- What reads of `reads` and stores to `stores`, made from `s` on, can have done to the memory side of `t`: a byte of RAM and a
device register change only where they are stored to, and without a store to Control a timer loses its counter exactly where it
is read (R31, R32; 60_exceptions.md R319). -/
structure Accesses (s t : State) (reads stores : List Addr) : Prop where
  ram : ∀ a, a ∉ stores → t.ram.read a = s.ram.read a
  dspAddr : 0x00F2#16 ∉ stores → t.dspAddr = s.dspAddr
  dsp : 0x00F3#16 ∉ stores → t.dsp = s.dsp
  timers : 0x00F1#16 ∉ stores → ∀ j : Fin 3, t.timers.get j =
    if 0x00FD#16 + BitVec.ofNat 16 j.val ∈ reads then { s.timers.get j with counter := 0 } else s.timers.get j

/-- A run of reads changes nothing but counters (R31). -/
theorem State.foldl_touch_eq (as : List Addr) (s : State) :
    as.foldl State.touch s = { s with timers := (as.foldl State.touch s).timers } := by
  induction as generalizing s with
  | nil => rfl
  | cons a as ih => rw [List.foldl_cons, ih]; rfl

/-- A write changes the DSP index only through 0x00F2 (R32). -/
theorem State.dspAddr_memWrite (s : State) {a : Addr} (h : a ≠ 0x00F2#16) (v : Byte) :
    (s.memWrite a v).dspAddr = s.dspAddr := by
  rcases s.memWrite_cases a v with ⟨-, e⟩ | ⟨e, -⟩ | ⟨-, e⟩ | ⟨-, e⟩ | ⟨-, -, -, -, e⟩
  case inr.inl => exact absurd e h
  all_goals rw [e]

/-- A write changes the DSP only through 0x00F3 (R32). -/
theorem State.dsp_memWrite (s : State) {a : Addr} (h : a ≠ 0x00F3#16) (v : Byte) : (s.memWrite a v).dsp = s.dsp := by
  rcases s.memWrite_cases a v with ⟨-, e⟩ | ⟨-, e⟩ | ⟨e, -⟩ | ⟨-, e⟩ | ⟨-, -, -, -, e⟩
  case inr.inr.inl => exact absurd e h
  all_goals rw [e]

namespace Accesses

theorem start (s : State) : Accesses s s [] [] := by
  constructor <;> simp

section
variable {R W : List Addr} {s t : State}

/-- A change that leaves the memory side alone is no access. -/
theorem quiet (h : Accesses s t R W) {u : State} (hb : u.bus = t.bus) : Accesses s u R W := by
  obtain ⟨hram, haddr, htimers, hdsp⟩ := Bus.mk.inj hb
  exact ⟨by rw [hram]; exact h.ram, by rw [haddr]; exact h.dspAddr, by rw [hdsp]; exact h.dsp,
    by rw [htimers]; exact h.timers⟩

/-! ### Flags, registers and the end of an instruction: no access -/

theorem setPsw (h : Accesses s t R W) (f : Psw) : Accesses s { t with psw := f } R W := h.quiet rfl

theorem setNZ16 (h : Accesses s t R W) (w : Addr) : Accesses s (t.setNZ16 w) R W := h.quiet rfl

theorem cmp8 (h : Accesses s t R W) (x m : Byte) : Accesses s (cmp8 x m t) R W := h.quiet rfl

theorem setYA (h : Accesses s t R W) (w : Addr) : Accesses s (t.setYA w) R W := h.quiet rfl

theorem addYA (h : Accesses s t R W) (w : Addr) : Accesses s (t.addYA w) R W := h.quiet rfl

theorem subYA (h : Accesses s t R W) (w : Addr) : Accesses s (t.subYA w) R W := h.quiet rfl

theorem cmpYA (h : Accesses s t R W) (w : Addr) : Accesses s (t.cmpYA w) R W := h.quiet rfl

theorem goto (h : Accesses s t R W) {i : Instr} {taken : Bool} {target : Addr} : Accesses s (t.goto i taken target) R W :=
  h.quiet rfl

theorem advance (h : Accesses s t R W) {i : Instr} : Accesses s (t.advance i) R W := h.quiet rfl

theorem branch (h : Accesses s t R W) {i : Instr} {taken : Bool} {r : Byte} : Accesses s (t.branch i taken r) R W :=
  h.quiet rfl

/-! ### Reads -/

theorem reads (h : Accesses s t R W) (as : List Addr) : Accesses s (as.foldl State.touch t) (R ++ as) W := by
  have e := State.foldl_touch_eq as t
  refine ⟨fun a ha => ?_, fun ha => ?_, fun ha => ?_, fun ha j => ?_⟩
  · rw [e]; exact h.ram a ha
  · rw [e]; exact h.dspAddr ha
  · rw [e]; exact h.dsp ha
  · rw [State.timers_foldl_touch, h.timers ha j]
    by_cases hR : 0x00FD#16 + BitVec.ofNat 16 j.val ∈ R <;>
      by_cases has : 0x00FD#16 + BitVec.ofNat 16 j.val ∈ as <;> simp [hR, has]

theorem touchWord (h : Accesses s t R W) (a : Addr) : Accesses s (t.touchWord a) (R ++ [a, a + 1]) W := h.reads [a, a + 1]

theorem touchDpWord (h : Accesses s t R W) (o : Byte) : Accesses s (t.touchDpWord o) (R ++ t.dpWordAddrs o) W :=
  h.reads (t.dpWordAddrs o)

theorem walk (h : Accesses s t R W) (l : Loc) : Accesses s (l.walk t) (R ++ l.pointerAddrs t) W := by
  rw [Loc.walk_eq_foldl]
  exact h.reads _

theorem after (h : Accesses s t R W) (l : Loc) : Accesses s (l.after t) (R ++ l.readAddrs t) W := by
  rw [Loc.after_eq_foldl]
  exact h.reads _

/-! ### Stores -/

theorem write (h : Accesses s t R W) (a : Addr) (v : Byte) : Accesses s (t.memWrite a v) R (W ++ [a]) := by
  have split {b : Addr} (hb : b ∉ W ++ [a]) : b ∉ W ∧ b ≠ a := by simpa using hb
  refine ⟨fun b hb => ?_, fun hb => ?_, fun hb => ?_, fun hb => ?_⟩ <;> obtain ⟨hW, hne⟩ := split hb
  · rw [t.memWrite_read_other hne, h.ram b hW]
  · rw [t.dspAddr_memWrite hne.symm, h.dspAddr hW]
  · rw [t.dsp_memWrite hne.symm, h.dsp hW]
  · rw [t.timers_memWrite hne.symm]
    exact h.timers hW

theorem dpWordWrite (h : Accesses s t R W) (o : Byte) (w : Addr) :
    Accesses s (t.dpWordWrite o w) R (W ++ t.dpWordAddrs o) := by
  rw [State.dpWordAddrs, List.append_cons]
  exact (h.write (t.dp o) (loByte w)).write (t.dphi o) (hiByte w)

theorem store (h : Accesses s t R W) (l : Loc) (v : Byte) :
    Accesses s (l.store v t) (R ++ l.pointerAddrs t) (W ++ [l.addr t]) :=
  (h.walk l).write _ v

/-- A read-modify-write whose byte operation touches no memory reads the operand and stores to it (R59). -/
theorem modify (h : Accesses s t R W) (l : Loc) {f : Byte → State → Byte × State} (hf : ∀ v u, (f v u).2.bus = u.bus) :
    Accesses s (l.modify f t) (R ++ l.readAddrs t) (W ++ [l.addr t]) :=
  ((h.after l).quiet (hf _ _)).write _ _

/-! ### The stack -/

/-- One push more than `n` stores to the stack byte after theirs (R42). -/
theorem push {n : Nat} (h : Accesses s t R (s.pushAddrs n)) (hsp : t.sp = s.sp - BitVec.ofNat 8 n) (v : Byte) :
    Accesses s (t.push v) R (s.pushAddrs (n + 1)) := by
  rw [State.pushAddrs, ← hsp]
  exact (h.write (stackAddr t.sp) v).quiet rfl

/-- One pop more than `n` reads the stack byte after theirs (R43). -/
theorem pop {n : Nat} (h : Accesses s t (s.popAddrs n) W) (hsp : t.sp = s.sp + BitVec.ofNat 8 n) :
    Accesses s t.popped (s.popAddrs (n + 1)) W := by
  rw [State.popAddrs, add_right_comm, ← hsp]
  exact (h.reads [stackAddr (t.sp + 1)]).quiet rfl

end

/-! ### One operation from the start -/

theorem ofAfter (l : Loc) (s : State) : Accesses s (l.after s) (l.readAddrs s) [] := (start s).after l

theorem ofStore (l : Loc) (v : Byte) (s : State) : Accesses s (l.store v s) (l.pointerAddrs s) [l.addr s] :=
  (start s).store l v

theorem ofModify (l : Loc) {f : Byte → State → Byte × State} (hf : ∀ v u, (f v u).2.bus = u.bus) (s : State) :
    Accesses s (l.modify f s) (l.readAddrs s) [l.addr s] :=
  (start s).modify l hf

theorem loadA (l : Loc) (s : State) : Accesses s (s.loadA (.mem l)) (l.readAddrs s) [] := (ofAfter l s).quiet rfl

theorem loadX (l : Loc) (s : State) : Accesses s (s.loadX (.mem l)) (l.readAddrs s) [] := (ofAfter l s).quiet rfl

theorem loadY (l : Loc) (s : State) : Accesses s (s.loadY (.mem l)) (l.readAddrs s) [] := (ofAfter l s).quiet rfl

theorem cmpReg (l : Loc) (s : State) (x : Byte) : Accesses s (s.cmpReg x (.mem l)) (l.readAddrs s) [] :=
  (ofAfter l s).quiet rfl

theorem aluA (l : Loc) (s : State) {f : Byte → Byte → State → Byte × State} (hf : ∀ x m u, (f x m u).2.bus = u.bus) :
    Accesses s (s.aluA f (.mem l)) (l.readAddrs s) [] :=
  (ofAfter l s).quiet (hf _ _ _)

theorem carryFromBit (s : State) (m : Addr) (c : Bool) :
    Accesses s (s.carryFromBit m c) ((Loc.abs m).readAddrs s) [] :=
  (ofAfter (.abs m) s).quiet rfl

theorem pushed (s : State) (v : Byte) : Accesses s (s.push v) [] (s.pushAddrs 1) := (start s).push (n := 0) (by simp) v

theorem pushWord (s : State) (w : Addr) : Accesses s (s.pushWord w) [] (s.pushAddrs 2) := (pushed s _).push (by simp) _

theorem enterTrap (s : State) (ret : Addr) : Accesses s (s.enterTrap ret) [] (s.pushAddrs 3) :=
  ((pushWord s ret).push (by simp [State.pushWord, sub_sub]) _).setPsw _

theorem popped (s : State) : Accesses s s.popped (s.popAddrs 1) [] := (start s).pop (n := 0) (by simp)

theorem popped_popped (s : State) : Accesses s s.popped.popped (s.popAddrs 2) [] := (popped s).pop (by simp)

/-- ALU on a memory destination: the source's reads `R`, the destination's, and one store to the destination (41_alu8.md
R132). -/
theorem aluMem {R : List Addr} {s : State} {o : Src} (h : Accesses s (o.after s) R []) (dst : Loc)
    {f : Byte → Byte → State → Byte × State} (hf : ∀ x m u, (f x m u).2.bus = u.bus) :
    Accesses s (s.aluMem f dst o) (R ++ dst.readAddrs (o.after s)) [dst.addr (o.after s)] :=
  h.modify dst fun x u => hf x _ u

end Accesses

/-- How an instruction `i` begun in `s` leaves the memory side: an unknown opcode alone (60_exceptions.md R304), any other
instruction by its accesses. -/
inductive MemoryEffect (i : Instr) (s t : State) : Prop
  | raises (hi : i.unknown s = true) (h : t.bus = s.bus)
  | accesses (h : Accesses s t (i.readsFrom s) (i.storesTo s))

/-- A tier E instruction has its effect's accesses, or none where it is unknown (00_scope.md R7). -/
theorem MemoryEffect.tierE {i : Instr} {s u : State} (hi : isTierE i.opcode = true)
    (h : Accesses s u (i.readsFrom s) (i.storesTo s)) : MemoryEffect i s (s.tierE i u) := by
  cases he : s.params.extOpcodes with
  | true => rw [State.tierE_ext he]; exact .accesses h
  | false => rw [State.tierE_unknown he]; exact .raises (by simp [Instr.unknown, hi, he]) rfl

/-- DIV works on registers and flags alone (42_arith16.md R216). -/
theorem State.bus_divYA (s : State) : s.divYA.bus = s.bus := by
  dsimp only [State.divYA]
  split <;> rfl

open Accesses in
/-- Every instruction reads and stores where `readsFrom` and `storesTo` say, in every state; what else it does leaves the memory
side alone. -/
theorem exec_memoryEffect (i : Instr) (s : State) : ∃ t, exec i s = .next t ∧ MemoryEffect i s t := by
  cases i
  -- one operand read
  case movAIndX | movADp | movADpX | movAAbs | movAAbsX | movAAbsY | movAIdxInd | movAIndIdx =>
    exact ⟨_, rfl, .accesses (loadA _ s).advance⟩
  case movXDp | movXDpY | movXAbs => exact ⟨_, rfl, .accesses (loadX _ s).advance⟩
  case movYDp | movYDpX | movYAbs => exact ⟨_, rfl, .accesses (loadY _ s).advance⟩
  case orAIndX | orADp | orADpX | orAAbs | orAAbsX | orAAbsY | orAIdxInd | orAIndIdx | andAIndX | andADp | andADpX | andAAbs
      | andAAbsX | andAAbsY | andAIdxInd | andAIndIdx | eorAIndX | eorADp | eorADpX | eorAAbs | eorAAbsX | eorAAbsY | eorAIdxInd
      | eorAIndIdx | adcAIndX | adcADp | adcADpX | adcAAbs | adcAAbsX | adcAAbsY | adcAIdxInd | adcAIndIdx | sbcAIndX | sbcADp
      | sbcADpX | sbcAAbs | sbcAAbsX | sbcAAbsY | sbcAIdxInd | sbcAIndIdx =>
    exact ⟨_, rfl, .accesses (aluA _ s fun _ _ _ => rfl).advance⟩
  case cmpAIndX | cmpADp | cmpADpX | cmpAAbs | cmpAAbsX | cmpAAbsY | cmpAIdxInd | cmpAIndIdx | cmpXDp | cmpXAbs | cmpYDp
      | cmpYAbs =>
    exact ⟨_, rfl, .accesses (cmpReg _ s _).advance⟩
  case movAIndXInc => exact ⟨_, rfl, .accesses ((ofAfter .indX s).quiet rfl)⟩
  case cmpDpImm v d => exact ⟨_, rfl, .accesses ((ofAfter (.dp d) s).cmp8 _ _).advance⟩
  case bbs | bbc | cbneDp | cbneDpX => exact ⟨_, rfl, .accesses (ofAfter _ s).branch⟩
  case or1 | or1Not | and1 | and1Not | eor1 | mov1CMem =>
    exact ⟨_, rfl, .tierE (by simp [Instr.opcode, isTierE]) (carryFromBit s _ _).advance⟩
  -- two operands read
  case cmpIndXIndY => exact ⟨_, rfl, .accesses (((ofAfter .indY s).after .indX).cmp8 _ _).advance⟩
  case cmpDpDp ds dd => exact ⟨_, rfl, .accesses (((ofAfter (.dp ds) s).after (.dp dd)).cmp8 _ _).advance⟩
  -- a word read
  case movwYADp d => exact ⟨_, rfl, .accesses ((((start s).touchDpWord d).setYA _).setNZ16 _).advance⟩
  case addw d => exact ⟨_, rfl, .accesses (((start s).touchDpWord d).addYA _).advance⟩
  case subw d => exact ⟨_, rfl, .accesses (((start s).touchDpWord d).subYA _).advance⟩
  case cmpw d => exact ⟨_, rfl, .tierE (by simp [Instr.opcode, isTierE]) (((start s).touchDpWord d).cmpYA _).advance⟩
  case jmpIdxInd a => exact ⟨_, rfl, .accesses ((start s).touchWord (s.jmpPointer a)).goto⟩
  -- a store with no read of the operand
  case movIndXIncA => exact ⟨_, rfl, .accesses ((ofStore .indX s.a s).quiet rfl)⟩
  case movIndXA | movDpA | movDpXA | movAbsA | movAbsXA | movAbsYA | movIdxIndA | movIndIdxA | movDpX | movDpYX | movAbsX
      | movDpY | movDpXY | movAbsY | movDpImm =>
    exact ⟨_, rfl, .accesses (ofStore _ _ s).advance⟩
  case movDpDp ds dd => exact ⟨_, rfl, .accesses ((ofAfter (.dp ds) s).store (.dp dd) _).advance⟩
  case movwDpYA d => exact ⟨_, rfl, .accesses ((start s).dpWordWrite d s.ya).advance⟩
  -- an operand read, changed and written back
  case aslDp | aslDpX | aslAbs | lsrDp | lsrDpX | lsrAbs | rolDp | rolDpX | rolAbs | rorDp | rorDpX | rorAbs | set1 | clr1
      | tset1 | tclr1 | incDp | incDpX | incAbs | decDp | decDpX | decAbs =>
    exact ⟨_, rfl, .accesses (ofModify _ (fun _ _ => rfl) s).advance⟩
  case dbnzDp d r => exact ⟨_, rfl, .accesses (ofModify (.dp d) (fun _ _ => rfl) s).branch⟩
  case mov1MemC | not1 =>
    exact ⟨_, rfl, .tierE (by simp [Instr.opcode, isTierE]) (ofModify _ (fun _ _ => rfl) s).advance⟩
  case orIndXIndY | andIndXIndY | eorIndXIndY | adcIndXIndY | sbcIndXIndY =>
    exact ⟨_, rfl, .accesses (aluMem (ofAfter .indY s) .indX fun _ _ _ => rfl).advance⟩
  case orDpDp ds dd | andDpDp ds dd | eorDpDp ds dd | adcDpDp ds dd | sbcDpDp ds dd =>
    exact ⟨_, rfl, .accesses (aluMem (ofAfter (.dp ds) s) (.dp dd) fun _ _ _ => rfl).advance⟩
  case orDpImm v d | andDpImm v d | eorDpImm v d | adcDpImm v d | sbcDpImm v d =>
    exact ⟨_, rfl, .accesses (aluMem (o := .imm v) (start s) (.dp d) fun _ _ _ => rfl).advance⟩
  case incw d | decw d => exact ⟨_, rfl, .accesses ((((start s).touchDpWord d).dpWordWrite d _).setNZ16 _).advance⟩
  -- the stack
  case pushA | pushX | pushY | pushPsw => exact ⟨_, rfl, .accesses (pushed s _).advance⟩
  case popA | popX | popY | popPsw => exact ⟨_, rfl, .accesses ((popped s).quiet rfl)⟩
  case ret => exact ⟨_, rfl, .accesses (popped_popped s).goto⟩
  case reti =>
    exact ⟨_, rfl, .tierE (by simp [Instr.opcode, isTierE]) (((popped_popped s).pop (by simp [add_assoc])).setPsw _).goto⟩
  case call => exact ⟨_, rfl, .accesses (pushWord s _).goto⟩
  case pcall => exact ⟨_, rfl, .tierE (by simp [Instr.opcode, isTierE]) (pushWord s _).goto⟩
  case tcall n => exact ⟨_, rfl, .tierE (isTierE_tcall n) ((pushWord s _).touchWord (callVector n)).goto⟩
  case brk => exact ⟨_, rfl, .accesses ((enterTrap s _).touchWord trapVector).goto⟩
  -- registers, flags and pc alone
  case daa | das => exact ⟨_, rfl, .tierE (by simp [Instr.opcode, isTierE]) ((start s).quiet rfl)⟩
  case div => exact ⟨_, rfl, .accesses ((start s).quiet s.bus_divYA).advance⟩
  all_goals exact ⟨_, rfl, .accesses ((start s).quiet rfl)⟩

/-- A next state of an instruction has the instruction's effect on memory. -/
theorem MemoryEffect.of_exec {i : Instr} {s t : State} (h : exec i s = .next t) : MemoryEffect i s t := by
  obtain ⟨u, hu, he⟩ := exec_memoryEffect i s
  obtain rfl := Host.Outcome.next.inj (h.symm.trans hu)
  exact he

/-- Settles O19: RAM changes only where the instruction stores, and at a plain address the fabric is RAM. -/
theorem memoryFrame : Obligations.MemoryFrame := by
  intro i s t a hx ha
  have hram : t.ram.read a = s.ram.read a := by
    cases MemoryEffect.of_exec hx with
    | raises _ h => rw [(Bus.mk.inj h).1]
    | accesses h => exact h.ram a ha
  exact ⟨hram, fun hp => by rw [t.peek_of_plain hp, s.peek_of_plain hp, hram]⟩

/-- Settles O20: an unknown opcode leaves the devices alone, and any other instruction reaches them by its accesses. -/
theorem deviceFrame : Obligations.DeviceFrame := by
  intro i s t hx
  cases MemoryEffect.of_exec hx with
  | raises hi h =>
    obtain ⟨-, haddr, htimers, hdsp⟩ := Bus.mk.inj h
    exact ⟨fun _ => haddr, fun _ => hdsp, fun _ j => ⟨fun _ => by rw [htimers], fun _ hn => by simp [hi] at hn⟩⟩
  | accesses h =>
    exact ⟨h.dspAddr, h.dsp, fun hc j =>
      ⟨fun hr => by rw [h.timers hc, if_neg hr], fun hr _ => by rw [h.timers hc, if_pos hr]⟩⟩

end Sys2Proof.Machine
end

section
/-! PROOF (O1 to O4). Decoding and encoding are inverse: `decodeOp` is described once on the opcode map (30_encoding.md R70) and once
on the constructors, and `decode` once on the lists that hold an instruction and once on those that end too soon (R65). -/

namespace Sys2Proof

/-! ### The parts of an opcode byte and of an operand word -/

/-- A nibble is one of sixteen: the columns and the rows of the map (30_encoding.md R70). -/
theorem nibble_cases {p : BitVec 4 → Prop} (d0 : p 0x0#4) (d1 : p 0x1#4) (d2 : p 0x2#4) (d3 : p 0x3#4) (d4 : p 0x4#4)
    (d5 : p 0x5#4) (d6 : p 0x6#4) (d7 : p 0x7#4) (d8 : p 0x8#4) (d9 : p 0x9#4) (dA : p 0xA#4) (dB : p 0xB#4)
    (dC : p 0xC#4) (dD : p 0xD#4) (dE : p 0xE#4) (dF : p 0xF#4) (n : BitVec 4) : p n := by
  obtain ⟨k⟩ := n
  fin_cases k <;> assumption

/-- An opcode byte is its row, then its column (R70). -/
theorem row_append_column (op : Byte) : op.extractLsb' 4 4 ++ op.extractLsb' 0 4 = op := by
  revert op
  decide

/-- The operand word of a memory-bit form has no bit outside its two fields (20_memory.md R56). -/
@[simp] theorem memBitWord_memBitAddr_memBitIndex (w : Addr) : memBitWord (memBitAddr w) (memBitIndex w) = w := by
  apply BitVec.eq_of_toNat_eq
  simp only [memBitWord_toNat, memBitAddr, memBitIndex, BitVec.toNat_setWidth, BitVec.extractLsb'_toNat,
    Nat.shiftRight_eq_div_pow]
  omega

/-- The address field has 13 bits (R56). -/
theorem memBitAddr_lt (w : Addr) : (memBitAddr w).toNat < 0x2000 := by
  simp only [memBitAddr, BitVec.toNat_setWidth, BitVec.extractLsb'_toNat]
  omega

/-- A word operand is the word of its encoded bytes (R67). -/
theorem word_fields (f : Addr → Instr) (a : Addr) : f (wordOf (hiByte a) (loByte a)) = f a := by
  rw [wordOf_hiByte_loByte]

/-- A memory-bit operand is the two fields of its encoded bytes (R56, R67). -/
theorem memBit_fields (f : Addr → BitVec 3 → Instr) {m : Addr} (h : m.toNat < 0x2000) (b : BitVec 3) :
    f (memBitAddr (wordOf (hiByte (memBitWord m b)) (loByte (memBitWord m b))))
      (memBitIndex (wordOf (hiByte (memBitWord m b)) (loByte (memBitWord m b)))) = f m b := by
  simp [memBitAddr_memBitWord h]

/-! ### `decodeOp` on the constructors -/

/-- The opcode byte and the operand bytes of a well-formed instruction are read as that instruction (R66, R67, R68, R70). -/
theorem decodeOp_encode {i : Instr} (h : i.WellFormed) :
    decodeOp i.opcode (i.operands.getD 0 0) (i.operands.getD 1 0) = i := by
  cases i
  -- the numbers inside the opcode byte
  case set1 b d | clr1 b d | bbs b d r | bbc b d r =>
    obtain ⟨k⟩ := b
    fin_cases k <;> dsimp only [Instr.opcode] <;> rfl
  case tcall n => cases n using nibble_cases <;> rfl
  all_goals dsimp only [Instr.opcode]
  case movAAbs | movAAbsX | movAAbsY | movXAbs | movYAbs | movAbsA | movAbsXA | movAbsYA | movAbsX | movAbsY | orAAbs
      | orAAbsX | orAAbsY | andAAbs | andAAbsX | andAAbsY | eorAAbs | eorAAbsX | eorAAbsY | cmpAAbs | cmpAAbsX | cmpAAbsY
      | adcAAbs | adcAAbsX | adcAAbsY | sbcAAbs | sbcAAbsX | sbcAAbsY | cmpXAbs | cmpYAbs | aslAbs | lsrAbs | rolAbs
      | rorAbs | tset1 | tclr1 | call | jmpAbs | jmpIdxInd | incAbs | decAbs =>
    exact .trans (by rfl) (word_fields _ _)
  case or1 | or1Not | and1 | and1Not | eor1 | mov1CMem | mov1MemC | not1 =>
    exact .trans (by rfl) (memBit_fields _ (of_decide_eq_true h) _)
  -- no operand, or operand bytes taken as they are
  all_goals rfl

/-! ### `decodeOp` on the opcode map -/

/-- `i` is read from the opcode byte `op` and the bytes `b1`, `b2` after it: it has that opcode byte, those of the two bytes that the
opcode byte announces as its operands, and is well-formed (R65, R66). -/
structure ReadFrom (op b1 b2 : Byte) (i : Instr) : Prop where
  opcode : i.opcode = op
  operands : i.operands = [b1, b2].take (lengthOf op - 1)
  wellFormed : i.WellFormed

/-- The instructions with a word operand (R66, format abs). -/
theorem ReadFrom.word {op b1 b2 : Byte} {i : Instr} (ho : i.opcode = op) (hl : lengthOf op = 3)
    (hb : i.operands = [loByte (wordOf b2 b1), hiByte (wordOf b2 b1)]) (hw : i.WellFormed) : ReadFrom op b1 b2 i :=
  ⟨ho, by simp [hb, hl], hw⟩

/-- The instructions with a memory-bit operand (R66, format membit), `w` the operand word. -/
theorem ReadFrom.memBit {op b1 b2 : Byte} {i : Instr} {w : Addr} (hw : w = wordOf b2 b1) (ho : i.opcode = op)
    (hl : lengthOf op = 3)
    (hb : i.operands = [loByte (memBitWord (memBitAddr w) (memBitIndex w)), hiByte (memBitWord (memBitAddr w) (memBitIndex w))])
    (hi : i.wellFormed = decide ((memBitAddr w).toNat < 0x2000)) : ReadFrom op b1 b2 i :=
  ⟨ho, by simp [hb, hl, hw], by simp [Instr.WellFormed, hi, memBitAddr_lt]⟩

/-- The map, column by column; named are the rows with a word or a memory-bit operand (R70). -/
theorem decodeOp_append_readFrom (row col : BitVec 4) (b1 b2 : Byte) :
    ReadFrom (row ++ col) b1 b2 (decodeOp (row ++ col) b1 b2) := by
  cases col using nibble_cases
  case d0 | d1 | d2 | d3 | d4 | d7 | d8 | dB | dD => cases row using nibble_cases <;> exact ⟨rfl, rfl, rfl⟩
  case d5 => cases row using nibble_cases <;> exact .word rfl rfl rfl rfl
  case d6 =>
    cases row using nibble_cases
    case d1 | d3 | d5 | d7 | d9 | dB | dD | dF => exact .word rfl rfl rfl rfl
    all_goals exact ⟨rfl, rfl, rfl⟩
  case d9 =>
    cases row using nibble_cases
    case dC | dE => exact .word rfl rfl rfl rfl
    all_goals exact ⟨rfl, rfl, rfl⟩
  case dA =>
    cases row using nibble_cases
    case d0 | d2 | d4 | d6 | d8 | dA | dC | dE => exact .memBit rfl rfl rfl rfl rfl
    all_goals exact ⟨rfl, rfl, rfl⟩
  case dC =>
    cases row using nibble_cases
    case d0 | d2 | d4 | d6 | d8 | dA | dC | dE => exact .word rfl rfl rfl rfl
    all_goals exact ⟨rfl, rfl, rfl⟩
  case dE =>
    cases row using nibble_cases
    case d0 | d1 | d4 | d5 => exact .word rfl rfl rfl rfl
    all_goals exact ⟨rfl, rfl, rfl⟩
  case dF =>
    cases row using nibble_cases
    case d1 | d3 | d5 => exact .word rfl rfl rfl rfl
    all_goals exact ⟨rfl, rfl, rfl⟩

theorem decodeOp_readFrom (op b1 b2 : Byte) : ReadFrom op b1 b2 (decodeOp op b1 b2) :=
  row_append_column op ▸ decodeOp_append_readFrom _ _ b1 b2

/-! ### Lengths -/

theorem Instr.length_eq (i : Instr) : i.length = i.operands.length + 1 := by
  cases i <;> rfl

theorem Instr.length_bounds (i : Instr) : 1 ≤ i.length ∧ i.length ≤ 3 := by
  unfold Instr.length
  cases i.format <;> decide

theorem lengthOf_bounds (op : Byte) : 1 ≤ lengthOf op ∧ lengthOf op ≤ 3 := (decodeOp op 0 0).length_bounds

/-- The length depends on the opcode byte alone (R65): as many bytes are read as it announces. -/
theorem decodeOp_length (op b1 b2 : Byte) : (decodeOp op b1 b2).length = lengthOf op := by
  have hb := lengthOf_bounds op
  rw [Instr.length_eq, (decodeOp_readFrom op b1 b2).operands, List.length_take, List.length_cons, List.length_singleton]
  omega

theorem lengthOf_opcode {i : Instr} (h : i.WellFormed) : lengthOf i.opcode = i.operands.length + 1 := by
  rw [← decodeOp_length, decodeOp_encode h, i.length_eq]

/-- Where the bytes suffice, the operand bytes are as many as the opcode byte announces. -/
theorem lengthOf_eq_length_take {op : Byte} {rest : List Byte} (h : lengthOf op ≤ rest.length + 1) :
    lengthOf op = (rest.take (lengthOf op - 1)).length + 1 := by
  have hb := lengthOf_bounds op
  rw [List.length_take]
  omega

/-- A list of at most two bytes is read back from its two places. -/
theorem take_getD_pair {bs : List Byte} (h : bs.length ≤ 2) : [bs.getD 0 0, bs.getD 1 0].take bs.length = bs := by
  match bs with
  | [] | [_] | [_, _] => rfl
  | _ :: _ :: _ :: _ => simp at h

/-! ### `decode` on lists of bytes -/

/-- Where all operand bytes `bs` are there, the rest of the list comes back (R65). -/
theorem decode_append {op : Byte} {bs : List Byte} (h : lengthOf op = bs.length + 1) (rest : List Byte) :
    decode (op :: (bs ++ rest)) = .ok (decodeOp op (bs.getD 0 0) (bs.getD 1 0), rest) := by
  have hb := (lengthOf_bounds op).2
  match bs with
  | [] | [_] | [_, _] => simp [decode, h]
  | _ :: _ :: _ :: _ => simp at h; omega

theorem decode_of_le {op : Byte} {rest : List Byte} (h : lengthOf op ≤ rest.length + 1) :
    decode (op :: rest) = .ok (decodeOp op ((rest.take (lengthOf op - 1)).getD 0 0) ((rest.take (lengthOf op - 1)).getD 1 0),
      rest.drop (lengthOf op - 1)) := by
  have hd := decode_append (lengthOf_eq_length_take h) (rest.drop (lengthOf op - 1))
  rwa [List.take_append_drop] at hd

/-- Where an operand byte is missing, the list holds no instruction (R65). -/
theorem decode_truncated {op : Byte} {rest : List Byte} (h : rest.length + 1 < lengthOf op) :
    decode (op :: rest) = .error (.truncated op) := by
  have hb := (lengthOf_bounds op).2
  match rest with
  | [] =>
    obtain hl | hl : lengthOf op = 2 ∨ lengthOf op = 3 := by simp at h; omega
    all_goals simp [decode, hl]
  | [_] =>
    have hl : lengthOf op = 3 := by simp at h; omega
    simp [decode, hl]
  | _ :: _ :: _ => simp at h; omega

/-- A list that decodes is an opcode byte, the operand bytes it announces, and the rest. -/
theorem exists_of_decode_eq_ok {bytes rest : List Byte} {i : Instr} (h : decode bytes = .ok (i, rest)) :
    ∃ op bs, bytes = op :: (bs ++ rest) ∧ lengthOf op = bs.length + 1 ∧ i = decodeOp op (bs.getD 0 0) (bs.getD 1 0) := by
  match bytes with
  | [] => simp [decode] at h
  | op :: tail =>
    rcases le_or_gt (lengthOf op) (tail.length + 1) with hl | hl
    · rw [decode_of_le hl] at h
      obtain ⟨rfl, rfl⟩ := Prod.mk.inj (Except.ok.inj h)
      exact ⟨op, _, by rw [List.take_append_drop], lengthOf_eq_length_take hl, rfl⟩
    · rw [decode_truncated hl] at h
      cases h

/-! ### The statements -/

/-- Settles O1: an encoding is an opcode byte and the operand bytes it announces, and they are read as the instruction. -/
theorem decodeOfEncode : Obligations.DecodeOfEncode := by
  intro i rest h
  rw [encode, List.cons_append, decode_append (lengthOf_opcode h), decodeOp_encode h]

/-- Settles O2: what is read from an opcode byte and its operand bytes has them as its own. -/
theorem encodeOfDecode : Obligations.EncodeOfDecode := by
  intro bytes i rest h
  obtain ⟨op, bs, rfl, hl, rfl⟩ := exists_of_decode_eq_ok h
  obtain ⟨ho, hb, hw⟩ := decodeOp_readFrom op (bs.getD 0 0) (bs.getD 1 0)
  have hle := lengthOf_bounds op
  refine ⟨hw, ?_⟩
  rw [encode, ho, hb, hl, Nat.add_sub_cancel, take_getD_pair (by omega), List.cons_append]

/-- The opcode bytes are counted in two halves, each short enough to evaluate. -/
theorem countP_range_256 (p : Nat → Bool) :
    (List.range 256).countP p = (List.range 128).countP p + (List.range 128).countP (fun k => p (128 + k)) := by
  rw [show 256 = 128 + 128 from rfl, List.range_add, List.countP_append, List.countP_map]
  rfl

/-- Settles O3: the first clause by the two laws of `decode`, the three counts by evaluating `lengthOf` on the 256 bytes. -/
theorem instructionLengths : Obligations.InstructionLengths := by
  refine ⟨fun op rest => ⟨(lengthOf_bounds op).1, (lengthOf_bounds op).2, fun h => ?_, decode_truncated⟩, ?_⟩
  · exact ⟨_, decode_of_le h, decodeOp_length .., (decodeOp_readFrom ..).opcode⟩
  · simp only [countP_range_256]
    exact ⟨by decide, by decide, by decide⟩

/-- Settles O4: each word is the encoding of its instruction, with nothing after it. -/
theorem sampleWords : Obligations.SampleWords :=
  ⟨decodeOfEncode .ret [] rfl, decodeOfEncode (.movAImm 0x9A) [] rfl, decodeOfEncode (.movADpX 0x20) [] rfl,
    decodeOfEncode (.bpl 0x05) [] rfl, decodeOfEncode (.pcall 0x40) [] rfl, decodeOfEncode (.call 0x1234) [] rfl,
    decodeOfEncode (.bbs 0 0x10 0x05) [] rfl, decodeOfEncode (.bbc 3 0x20 0xFB) [] rfl, decodeOfEncode (.set1 3 0x20) [] rfl,
    decodeOfEncode (.tcall 4) [] rfl, decodeOfEncode (.orDpDp 0x20 0x21) [] rfl, decodeOfEncode (.orDpImm 0x9A 0x20) [] rfl,
    decodeOfEncode (.or1 0x0234 5) [] rfl, decodeOfEncode (.aslDp 0x20) [] rfl, decodeOfEncode (.addw 0x20) [] rfl,
    decodeOfEncode (.incw 0x20) [] rfl, decodeOfEncode .nop [] rfl⟩

end Sys2Proof
end

section
/-! PROOF (O7). An unknown opcode, in `exec` and in a step (30_encoding.md R73; 60_exceptions.md R304, R306). -/

namespace Sys2Proof.Machine

/-- No opcode byte of SET1, CLR1, BBS or BBC is in the unknown set, whatever its bit number (30_encoding.md R68, R73). -/
theorem isTierE_bitNumber (b : BitVec 3) : isTierE (b ++ 0x02#5) = false ∧ isTierE (b ++ 0x12#5) = false ∧
    isTierE (b ++ 0x03#5) = false ∧ isTierE (b ++ 0x13#5) = false := by
  revert b
  decide

/-- An instruction of the unknown set, with EXT_OPCODES false, raises UnknownOpcode and does nothing else (R304). -/
theorem exec_eq_raiseUnknown {i : Instr} {s : State} (hi : isTierE i.opcode = true) (he : s.params.extOpcodes = false) :
    exec i s = .next (s.raiseUnknown i.opcode) := by
  cases i
  case tcall | cmpw | or1 | or1Not | and1 | and1Not | eor1 | mov1CMem | mov1MemC | not1 | pcall | reti | daa | das =>
    exact congrArg Host.Outcome.next (State.tierE_unknown he _ _)
  case set1 b _ | clr1 b _ | bbs b _ _ | bbc b _ _ => simp [Instr.opcode, isTierE_bitNumber b] at hi
  -- every other opcode byte is outside the set
  all_goals exact absurd hi (by dsimp only [Instr.opcode]; decide)

/-- The fetch of an unknown opcode reads its opcode byte alone (R304, R306). -/
theorem State.afterFetch_of_unknown {s : State} (hi : isTierE (s.peek s.pc) = true) (he : s.params.extOpcodes = false) :
    s.afterFetch = s.touch s.pc := by
  have hl : s.fetchLength = 1 := by simp [State.fetchLength, hi, he]
  simp [State.afterFetch, State.afterB1, State.afterOp, hl]

/-- The fetched instruction has the opcode byte at the program counter. -/
theorem State.opcode_fetched (s : State) : s.fetched.opcode = s.peek s.pc := (decodeOp_readFrom ..).opcode

/-- A step whose instruction raises UnknownOpcode ends there: no timer tick and no sample (R304). -/
theorem State.endStep_raiseUnknown (s : State) (op : Byte) : (s.raiseUnknown op).endStep = s.raiseUnknown op := rfl

/-- Settles O7: the fetch reads the opcode byte, the instruction raises, and the step ends there. -/
theorem unknownOpcode : Obligations.UnknownOpcode := by
  refine ⟨by decide, fun s hr he hi => ?_, fun i s => exec_eq_raiseUnknown⟩
  have hx : exec s.fetched s.afterFetch = .next ((s.touch s.pc).raiseUnknown (s.peek s.pc)) := by
    rw [State.afterFetch_of_unknown hi he, exec_eq_raiseUnknown (by rwa [State.opcode_fetched]) (by simpa using he),
      State.opcode_fetched]
  simp only [step, hr, hx, State.endStep_raiseUnknown]
  simp [State.raiseUnknown]

end Sys2Proof.Machine
end

section
/-! PROOF (O32 to O36). Data movement (40_data_movement.md R75 to R127): the whole next state of every load, store, transfer, word
move and stack instruction. An instruction's effect is brought to the statement's terms, and what is left is the end of an
instruction that falls through. -/

namespace Sys2Proof.Machine

/-- An instruction whose effect `u` is `t`, which leaves pc, cycle and parameters, ends as the statements have it. -/
theorem next_advance_eq_ended {s t u : State} {i : Instr} (e : u = t) (hp : t.pc = s.pc) (hc : t.cycle = s.cycle)
    (hq : t.params = s.params) : (.next (u.advance i) : Result) = .next (t.ended s i) := by
  rw [e, State.advance_eq_ended hp hc hq]

/-! ### Moves into a register -/

@[simp] theorem State.pc_setReg (s : State) (r : Reg) (v : Byte) : (s.setReg r v).pc = s.pc := by cases r <;> rfl
@[simp] theorem State.cycle_setReg (s : State) (r : Reg) (v : Byte) : (s.setReg r v).cycle = s.cycle := by cases r <;> rfl
@[simp] theorem State.params_setReg (s : State) (r : Reg) (v : Byte) : (s.setReg r v).params = s.params := by cases r <;> rfl

theorem State.moveToA_eq (s : State) (v : Byte) : s.moveToA v = { s.setReg .a v with psw := s.psw.nz8 v } :=
  State.setNZ8_eq (s.setReg .a v) v

theorem State.moveToX_eq (s : State) (v : Byte) : s.moveToX v = { s.setReg .x v with psw := s.psw.nz8 v } :=
  State.setNZ8_eq (s.setReg .x v) v

theorem State.moveToY_eq (s : State) (v : Byte) : s.moveToY v = { s.setReg .y v with psw := s.psw.nz8 v } :=
  State.setNZ8_eq (s.setReg .y v) v

/-- A load of the register `r` from the source `o`: the source read, its byte moved, N and Z set from the byte (R75). -/
def State.loaded (s : State) (r : Reg) (o : Src) : State :=
  { (o.after s).setReg r (o.value s) with psw := s.psw.nz8 (o.value s) }

theorem State.loadA_eq (s : State) (o : Src) : s.loadA o = s.loaded .a o := by
  rw [State.loadA, State.moveToA_eq, Src.after_psw, State.loaded]

theorem State.loadX_eq (s : State) (o : Src) : s.loadX o = s.loaded .x o := by
  rw [State.loadX, State.moveToX_eq, Src.after_psw, State.loaded]

theorem State.loadY_eq (s : State) (o : Src) : s.loadY o = s.loaded .y o := by
  rw [State.loadY, State.moveToY_eq, Src.after_psw, State.loaded]

/-- Every instruction of a load form loads the form's register from the form's source (R76, R77, R79 to R93). -/
theorem exec_of_loadForm {i : Instr} {r : Reg} {o : Src} (h : i.loadForm = some (r, o)) (s : State) :
    exec i s = .next ((s.loaded r o).advance i) := by
  cases i
  case movAImm | movAIndX | movADp | movADpX | movAAbs | movAAbsX | movAAbsY | movAIdxInd | movAIndIdx =>
    cases h
    rw [← State.loadA_eq]
    rfl
  case movXImm | movXDp | movXDpY | movXAbs =>
    cases h
    rw [← State.loadX_eq]
    rfl
  case movYImm | movYDp | movYDpX | movYAbs =>
    cases h
    rw [← State.loadY_eq]
    rfl
  -- no other instruction has a load form
  all_goals cases h

/-- Every instruction of a transfer form moves the source register to the destination, N and Z from it (R109 to R113). -/
theorem exec_of_transferForm {i : Instr} {d r : Reg} (h : i.transferForm = some (d, r)) (s : State) :
    exec i s = .next (State.advance { s.setReg d (s.reg r) with psw := s.psw.nz8 (s.reg r) } i) := by
  cases i
  case movAX | movAY =>
    cases h
    rw [← State.moveToA_eq]
    rfl
  case movXA | movXSp =>
    cases h
    rw [← State.moveToX_eq]
    rfl
  case movYA =>
    cases h
    rw [← State.moveToY_eq]
    rfl
  -- no other instruction has a transfer form
  all_goals cases h

/-- Settles O32: each form has one effect, which leaves pc, cycle and parameters. -/
theorem loads : Obligations.Loads := by
  intro i s
  refine ⟨fun r o h => ?_, fun d r h => ?_, rfl⟩
  · rw [exec_of_loadForm h]
    exact next_advance_eq_ended rfl (by simp) (by simp) (by simp)
  · rw [exec_of_transferForm h]
    exact next_advance_eq_ended rfl (by simp) (by simp) (by simp)

/-- Settles O33: the address is formed with X as it was, and neither access changes X. -/
theorem postIncrement : Obligations.PostIncrement := by
  intro s
  constructor
  · exact next_advance_eq_ended (State.moveToA_eq _ _) rfl rfl rfl
  · refine next_advance_eq_ended ?_ (by simp) (by simp) (by simp)
    rw [State.stepX, Loc.store, Loc.walk, Loc.addr, State.memWrite_x]

/-! ### Moves into memory -/

/-- Every instruction of a store form stores the form's register to the form's operand (R94, R96 to R108). -/
theorem exec_of_storeForm {i : Instr} {l : Loc} {r : Reg} (h : i.storeForm = some (l, r)) (s : State) :
    exec i s = .next ((l.store (s.reg r) s).advance i) := by
  cases i
  case movIndXA | movDpA | movDpXA | movAbsA | movAbsXA | movAbsYA | movIdxIndA | movIndIdxA | movDpX | movDpYX | movAbsX
      | movDpY | movDpXY | movAbsY =>
    cases h
    rfl
  -- no other instruction has a store form
  all_goals cases h

/-- Settles O34: a store is one write after the pointer's reads. -/
theorem stores : Obligations.Stores := by
  intro i s
  refine ⟨fun l r h => ?_, fun ds dd => ?_, fun m d => ?_⟩
  · rw [exec_of_storeForm h]
    exact next_advance_eq_ended rfl (by simp) (by simp) (by simp)
  all_goals exact next_advance_eq_ended rfl (by simp) (by simp) (by simp)

/-! ### Words and nibbles -/

/-- N and Z of a word, from its bytes: the sign is the high byte's, and the word is zero where both bytes are (R117). -/
theorem Psw.nz16_wordOf (f : Psw) (hi lo : Byte) :
    f.nz16 (wordOf hi lo) = { f with n := hi.getLsbD 7, z := decide (lo = 0 ∧ hi = 0) } := by
  have hn : (wordOf hi lo).getLsbD 15 = hi.getLsbD 7 := wordOf_msb hi lo
  simp only [Psw.nz16, hn, wordOf_eq_zero]

/-- The nibbles exchanged, on naturals (R119). -/
theorem swapNibbles_eq_ofNat (v : Byte) : swapNibbles v = BitVec.ofNat 8 (v.toNat % 16 * 16 + v.toNat / 16) := by
  have hlt : v.toNat % 16 * 16 + v.toNat / 16 < 256 := by omega
  apply BitVec.eq_of_toNat_eq
  rw [swapNibbles, BitVec.toNat_append, ← Nat.shiftLeft_add_eq_or_of_lt (BitVec.isLt _), BitVec.toNat_ofNat,
    Nat.mod_eq_of_lt hlt]
  simp [Nat.shiftRight_eq_div_pow]
  omega

/-- Settles O35: a direct-page word is the word of the two bytes read, and `YA` is the word of Y and A. -/
theorem wordMoves : Obligations.WordMoves := by
  intro s d
  refine ⟨?_, ?_, ?_⟩
  · refine next_advance_eq_ended ?_ rfl rfl rfl
    rw [State.setNZ16_eq, State.dpWord, Psw.nz16_wordOf, State.setYA, hiByte_wordOf, loByte_wordOf]
    rfl
  · refine next_advance_eq_ended ?_ (by simp) (by simp) (by simp)
    rw [State.dpWordWrite, State.ya, loByte_wordOf, hiByte_wordOf]
  · rw [← swapNibbles_eq_ofNat]
    exact next_advance_eq_ended (State.moveToA_eq s _) rfl rfl rfl

/-! ### The stack -/

/-- The PSW byte on naturals: N, V, P, B, H, I, Z, C from bit 7 down (10_state.md R18). -/
theorem Psw.toByte_eq_ofNat (f : Psw) :
    f.toByte = BitVec.ofNat 8 (128 * f.n.toNat + 64 * f.v.toNat + 32 * f.p.toNat + 16 * f.b.toNat + 8 * f.h.toNat +
      4 * f.i.toNat + 2 * f.z.toNat + f.c.toNat) := by
  obtain ⟨n, v, p, b, h, i, z, c⟩ := f
  revert n v p b h i z c
  decide

/-- A PUSH of the byte `v` ends with the push done and nothing else (R120 to R123). -/
theorem next_advance_push (s : State) (v : Byte) (i : Instr) :
    (.next ((s.push v).advance i) : Result) = .next ((s.push v).ended s i) :=
  next_advance_eq_ended rfl (by simp) (by simp) (by simp)

/-- Settles O36: a push is one write and a step of SP, and the stack page holds no device, so a pop is a read of RAM. -/
theorem stackInstructions : Obligations.StackInstructions := by
  intro s
  rw [← Psw.toByte_eq_ofNat, ← State.popValue_eq]
  refine ⟨next_advance_push s s.a _, next_advance_push s s.x _, next_advance_push s s.y _, next_advance_push s s.psw.toByte _,
    ?_, ?_, ?_, ?_⟩
  all_goals exact next_advance_eq_ended (by simp only [State.popped_eq, Psw.ofByte]) rfl rfl rfl

end Sys2Proof.Machine
end

section
/-! PROOF (O31, O37 to O39). The 8-bit ALU (41_alu8.md R128 to R211) and the one-bit shifts (43_shift_rotate.md R218): each byte
operation of the model is its rule on naturals, and each instruction is its form's operation on its form's operands. -/

namespace Sys2Proof.Machine

/-! ### Signed overflow, at every width -/

theorem toInt_add_carry {w : Nat} (x m : BitVec w) (c : Bool) :
    (x + m + BitVec.ofNat w c.toNat).toInt = (x.toInt + m.toInt + c.toNat).bmod (2 ^ w) := by
  rw [BitVec.toInt_add, BitVec.toInt_add, BitVec.toInt_ofNat', Int.bmod_add_bmod, Int.add_bmod_bmod]

theorem toInt_complement {w : Nat} (hw : 0 < w) (x : BitVec w) : (~~~x).toInt = -x.toInt - 1 := by
  have hx := x.isLt
  rw [BitVec.toInt_eq_msb_cond, BitVec.toInt_eq_msb_cond, BitVec.msb_not, BitVec.toNat_not, decide_eq_true hw, Bool.true_and]
  generalize 2 ^ w = size at hx ⊢
  cases x.msb <;> simp <;> omega

/-- Equal signs of the operands and another sign of the sum is signed overflow of the exact sum: the sum's pattern differs from
the exact sum by a multiple of `2 ^ w`, and is that sum only where the multiple is 0 (R129, 42_arith16.md R212). -/
theorem msb_sum_eq_overflows {w : Nat} (hw : 0 < w) (x m : BitVec w) (c : Bool) :
    (~~~(x ^^^ m) &&& (x ^^^ (x + m + BitVec.ofNat w c.toNat))).msb = overflows w (x.toInt + m.toInt + c.toNat) := by
  obtain ⟨k, hk⟩ := Int.dvd_self_sub_bmod (x := x.toInt + m.toInt + c.toNat) (m := 2 ^ w)
  rw [← toInt_add_carry, Nat.cast_pow, Nat.cast_ofNat, ← mul_pow_sub_one hw.ne' 2, mul_assoc] at hk
  generalize x + m + BitVec.ofNat w c.toNat = r at hk ⊢
  have hx := x.le_toInt
  have hx' := x.toInt_lt
  have hm := m.le_toInt
  have hm' := m.toInt_lt
  have hr := r.le_toInt
  have hr' := r.toInt_lt
  have hc : c.toNat ≤ 1 := c.toNat_le
  have half : (0 : Int) < 2 ^ (w - 1) := by positivity
  have multiple : (2 : Int) ^ (w - 1) * k ≤ -2 ^ (w - 1) ∨ (2 : Int) ^ (w - 1) * k = 0 ∨
      2 ^ (w - 1) ≤ (2 : Int) ^ (w - 1) * k := by
    rcases lt_trichotomy k 0 with hneg | rfl | hpos
    · exact .inl (by nlinarith)
    · exact .inr (.inl (mul_zero _))
    · exact .inr (.inr (by nlinarith))
  rw [BitVec.msb_and, BitVec.msb_not, BitVec.msb_xor, BitVec.msb_xor, BitVec.msb_eq_toInt, BitVec.msb_eq_toInt,
    BitVec.msb_eq_toInt, overflows]
  grind -ring

/-- A difference is the sum with the complement and the carry that is no borrow. -/
theorem sub_borrow_eq_add_complement {w : Nat} (x m : BitVec w) (c : Bool) :
    x - m - BitVec.ofNat w (1 - c.toNat) = x + ~~~m + BitVec.ofNat w c.toNat := by
  rw [BitVec.not_eq_neg_add]
  cases c with
  | false =>
    simp only [Bool.toNat_false, Nat.sub_zero, BitVec.add_zero]
    abel
  | true =>
    simp only [Bool.toNat_true, Nat.sub_self, BitVec.sub_zero]
    abel

/-- Unequal signs of the operands and a difference with another sign than the first is signed overflow (R130, R212): the rule of
the sum for the complement. -/
theorem msb_diff_eq_overflows {w : Nat} (hw : 0 < w) (x m : BitVec w) (c : Bool) :
    ((x ^^^ m) &&& (x ^^^ (x - m - BitVec.ofNat w (1 - c.toNat)))).msb =
      overflows w (x.toInt - m.toInt - (1 - c.toNat)) := by
  have exactSum : x.toInt + (~~~m).toInt + c.toNat = x.toInt - m.toInt - (1 - c.toNat) := by
    rw [toInt_complement hw]
    ring
  rw [sub_borrow_eq_add_complement, ← exactSum, ← msb_sum_eq_overflows hw, BitVec.not_xor_right, BitVec.not_not]

/-! ### The byte operations on naturals -/

/-- The model's operation of each ALU operation. -/
def AluOp.apply : AluOp → Byte → Byte → State → Byte × State
  | .or => or8
  | .and => and8
  | .eor => eor8
  | .adc => adc8
  | .sbc => sbc8

/-- ADC's sum on naturals and as bytes (R129). -/
theorem AluOp.value_adc (x m : Byte) (c : Bool) :
    AluOp.adc.value x m c = BitVec.ofNat 8 (x.toNat + m.toNat + c.toNat) := by
  apply BitVec.eq_of_toNat_eq
  simp [AluOp.value]

/-- SBC's difference on naturals and as bytes (R130). -/
theorem AluOp.value_sbc (x m : Byte) (c : Bool) :
    AluOp.sbc.value x m c = x - m - BitVec.ofNat 8 (1 - c.toNat) := by
  have hm := m.isLt
  apply BitVec.eq_of_toNat_eq
  cases c <;> simp [AluOp.value, BitVec.toNat_sub] <;> omega

/-- `adc8` is ADC's rule on naturals, H the next draw (R129). -/
theorem adc8_eq (x m : Byte) (s : State) :
    adc8 x m s = (AluOp.adc.value x m s.psw.c,
      { s with psw := AluOp.adc.flags x m s.psw (Config.freeBit s.draws), draws := s.draws + 1 }) := by
  have sum : BitVec.ofNat 8 (x.toNat + m.toNat + s.psw.c.toNat) = x + m + BitVec.ofNat 8 s.psw.c.toNat := by
    simp [BitVec.ofNat_add]
  simp only [adc8, State.setNZ8_eq, AluOp.flags, AluOp.value_adc]
  rw [sum, msb_sum_eq_overflows (by decide)]
  rfl

/-- `sbc8` is SBC's rule on naturals, H as V (R130). -/
theorem sbc8_eq (x m : Byte) (s : State) (h : Bool) :
    sbc8 x m s = (AluOp.sbc.value x m s.psw.c, { s with psw := AluOp.sbc.flags x m s.psw h }) := by
  simp only [sbc8, State.setNZ8_eq, AluOp.flags, AluOp.value_sbc, msb_diff_eq_overflows (w := 8) (by decide)]
  rfl

/-- Every ALU operation gives the result, the flags and the draws of its rule (R128 to R130). -/
theorem AluOp.apply_eq (op : AluOp) (x m : Byte) (s : State) :
    op.apply x m s = (op.value x m s.psw.c,
      { s with psw := op.flags x m s.psw (Config.freeBit s.draws), draws := s.draws + op.draws }) := by
  cases op with
  | or | and | eor => exact congrArg (Prod.mk _) (State.setNZ8_eq s _)
  | adc => exact adc8_eq x m s
  | sbc => exact sbc8_eq x m s _

/-- `cmp8` writes the flags of a comparison (R131). -/
theorem cmp8_eq (x m : Byte) (s : State) : cmp8 x m s = { s with psw := s.psw.compare x m } :=
  State.setNZ8_eq _ _

/-- The model's operation of each shift. -/
def ShiftOp.apply : ShiftOp → Byte → State → Byte × State
  | .asl => asl8
  | .lsr => lsr8
  | .rol => rol8
  | .ror => ror8

theorem shiftLeft_one_eq_ofNat (v : Byte) : v <<< 1 = BitVec.ofNat 8 (v.toNat * 2 % 256) := by
  apply BitVec.eq_of_toNat_eq
  simp [Nat.shiftLeft_eq]

theorem shiftRight_one_eq_ofNat (v : Byte) : v >>> 1 = BitVec.ofNat 8 (v.toNat / 2) := by
  apply BitVec.eq_of_toNat_eq
  simp [Nat.shiftRight_eq_div_pow]
  omega

/-- The carry enters at the free bit 0, where `or` is addition (R218). -/
theorem rotateLeft_eq_ofNat (v : Byte) (s : State) :
    v <<< 1 ||| carryByte s = BitVec.ofNat 8 (v.toNat * 2 % 256 + s.psw.c.toNat) := by
  have disjoint : v <<< 1 &&& carryByte s = 0#8 := by
    ext i hi
    cases h : s.psw.c with
    | false => simp [carryByte, h]
    | true => cases i <;> simp [carryByte, h]
  rw [← BitVec.add_eq_or_of_and_eq_zero _ _ disjoint, shiftLeft_one_eq_ofNat, BitVec.ofNat_add]
  cases h : s.psw.c <;> simp [carryByte, h]

/-- The carry enters at the free bit 7 (R218). -/
theorem rotateRight_eq_ofNat (v : Byte) (s : State) :
    v >>> 1 ||| carryByte s <<< 7 = BitVec.ofNat 8 (v.toNat / 2 + s.psw.c.toNat * 128) := by
  have disjoint : v >>> 1 &&& carryByte s <<< 7 = 0#8 := by
    ext i hi
    cases h : s.psw.c with
    | false => simp [carryByte, h]
    | true => interval_cases i <;> simp [carryByte, h]
  rw [← BitVec.add_eq_or_of_and_eq_zero _ _ disjoint, shiftRight_one_eq_ofNat, BitVec.ofNat_add]
  cases h : s.psw.c <;> simp [carryByte, h]

/-- A result that is the rule's, with the bit shifted out as C, is the rule's whole effect. -/
theorem ShiftOp.effect_eq {op : ShiftOp} {v res : Byte} {s : State} {out : Bool} (hres : res = op.value v s.psw.c)
    (hflags : op.flags v s.psw = { s.psw.nz8 (op.value v s.psw.c) with c := out }) :
    (res, State.setNZ8 { s with psw := { s.psw with c := out } } res) =
      (op.value v s.psw.c, { s with psw := op.flags v s.psw }) := by
  rw [hres, hflags, State.setNZ8_eq]
  rfl

/-- Every shift gives the result and the flags of its rule (R218). -/
theorem ShiftOp.apply_eq (op : ShiftOp) (v : Byte) (s : State) :
    op.apply v s = (op.value v s.psw.c, { s with psw := op.flags v s.psw }) := by
  cases op with
  | asl => exact ShiftOp.effect_eq (shiftLeft_one_eq_ofNat v) rfl
  | lsr => exact ShiftOp.effect_eq (shiftRight_one_eq_ofNat v) rfl
  | rol => exact ShiftOp.effect_eq (rotateLeft_eq_ofNat v s) rfl
  | ror => exact ShiftOp.effect_eq (rotateRight_eq_ofNat v s) rfl

/-- Settles O31: each operation is its rule on naturals. -/
theorem byteOperations : Obligations.ByteOperations := fun x m s =>
  ⟨AluOp.or.apply_eq x m s, AluOp.and.apply_eq x m s, AluOp.eor.apply_eq x m s, cmp8_eq x m s, ShiftOp.asl.apply_eq x s,
    ShiftOp.lsr.apply_eq x s, ShiftOp.rol.apply_eq x s, ShiftOp.ror.apply_eq x s⟩

/-! ### Destination A -/

/-- The effect of an ALU operation on A with the source read, in the statement's terms. -/
theorem State.aluA_apply (s : State) (op : AluOp) (o : Src) :
    s.aluA op.apply o = { o.after s with
      a := op.value s.a (o.value s) s.psw.c
      psw := op.flags s.a (o.value s) s.psw (Config.freeBit s.draws)
      draws := s.draws + op.draws } := by
  rw [State.aluA, AluOp.apply_eq, Src.after_psw, Src.after_draws]

/-- Every instruction with an accumulator form does the form's operation on A and the form's source. -/
theorem exec_of_accForm {i : Instr} {op : AluOp} {o : Src} (h : i.accForm = some (op, o)) (s : State) :
    exec i s = .next ((s.aluA op.apply o).advance i) := by
  cases i
  case orAImm | orAIndX | orADp | orADpX | orAAbs | orAAbsX | orAAbsY | orAIdxInd | orAIndIdx
      | andAImm | andAIndX | andADp | andADpX | andAAbs | andAAbsX | andAAbsY | andAIdxInd | andAIndIdx
      | eorAImm | eorAIndX | eorADp | eorADpX | eorAAbs | eorAAbsX | eorAAbsY | eorAIdxInd | eorAIndIdx
      | adcAImm | adcAIndX | adcADp | adcADpX | adcAAbs | adcAAbsX | adcAAbsY | adcAIdxInd | adcAIndIdx
      | sbcAImm | sbcAIndX | sbcADp | sbcADpX | sbcAAbs | sbcAAbsX | sbcAAbsY | sbcAIdxInd | sbcAIndIdx =>
    cases h
    rfl
  -- no other instruction has an accumulator form
  all_goals cases h

/-- Settles O37: one effect for every form, which leaves pc, cycle and parameters. -/
theorem aluOnA : Obligations.AluOnA := by
  intro i op o s h
  rw [exec_of_accForm h]
  exact next_advance_eq_ended (s.aluA_apply op o) (by simp) (by simp) (by simp)

/-! ### Memory destination -/

/-- The effect of an ALU operation on a memory byte: source read, destination read, result written (R132). -/
theorem State.aluMem_apply (s : State) (op : AluOp) (l : Loc) (o : Src) :
    s.aluMem op.apply l o = State.memWrite
      { l.after (o.after s) with
        psw := op.flags (l.value (o.after s)) (o.value s) s.psw (Config.freeBit s.draws)
        draws := s.draws + op.draws }
      (l.addr (o.after s)) (op.value (l.value (o.after s)) (o.value s) s.psw.c) := by
  rw [State.aluMem, Loc.modify, AluOp.apply_eq, Loc.after_psw, Loc.after_draws, Src.after_psw, Src.after_draws]

/-- Every instruction with a memory form does the form's operation on the form's destination and source. -/
theorem exec_of_memForm {i : Instr} {op : AluOp} {l : Loc} {o : Src} (h : i.memForm = some (op, l, o)) (s : State) :
    exec i s = .next ((s.aluMem op.apply l o).advance i) := by
  cases i
  case orIndXIndY | orDpDp | orDpImm | andIndXIndY | andDpDp | andDpImm | eorIndXIndY | eorDpDp | eorDpImm
      | adcIndXIndY | adcDpDp | adcDpImm | sbcIndXIndY | sbcDpDp | sbcDpImm =>
    cases h
    rfl
  -- no other instruction has a memory form
  all_goals cases h

/-- Settles O38: one effect for every form; its accesses leave pc, cycle and parameters. -/
theorem aluOnMemory : Obligations.AluOnMemory := by
  intro i op l o s h
  rw [exec_of_memForm h]
  exact next_advance_eq_ended (s.aluMem_apply op l o) (by simp) (by simp) (by simp)

/-! ### Comparisons -/

/-- The effect of a comparison of a byte with the source read. -/
theorem State.cmpReg_eq (s : State) (x : Byte) (o : Src) :
    s.cmpReg x o = { o.after s with psw := s.psw.compare x (o.value s) } := by
  rw [State.cmpReg, cmp8_eq, Src.after_psw]

/-- The effect of a comparison of a memory byte: both operands read, the source first (R132), nothing stored. -/
theorem State.cmpMem_eq (s : State) (l : Loc) (o : Src) :
    s.cmpMem l o = { l.after (o.after s) with psw := s.psw.compare (l.value (o.after s)) (o.value s) } := by
  rw [State.cmpMem, cmp8_eq, Loc.after_psw, Src.after_psw]

/-- Every instruction with a compare form compares the form's register with the form's source. -/
theorem exec_of_compareForm {i : Instr} {r : Reg} {o : Src} (h : i.compareForm = some (r, o)) (s : State) :
    exec i s = .next ((s.cmpReg (s.reg r) o).advance i) := by
  cases i
  case cmpAImm | cmpAIndX | cmpADp | cmpADpX | cmpAAbs | cmpAAbsX | cmpAAbsY | cmpAIdxInd | cmpAIndIdx
      | cmpXImm | cmpXDp | cmpXAbs | cmpYImm | cmpYDp | cmpYAbs =>
    cases h
    rfl
  -- no other instruction has a compare form
  all_goals cases h

/-- Every instruction with a memory compare form compares the form's two operands. -/
theorem exec_of_compareMemForm {i : Instr} {l : Loc} {o : Src} (h : i.compareMemForm = some (l, o)) (s : State) :
    exec i s = .next ((s.cmpMem l o).advance i) := by
  cases i
  case cmpIndXIndY | cmpDpDp | cmpDpImm =>
    cases h
    rfl
  -- no other instruction has a memory compare form
  all_goals cases h

/-- Settles O39: a comparison is its reads and the flags of the difference. -/
theorem compares : Obligations.Compares := by
  intro i s
  refine ⟨fun r o h => ?_, fun l o h => ?_⟩
  · rw [exec_of_compareForm h]
    exact next_advance_eq_ended (s.cmpReg_eq _ o) (by simp) (by simp) (by simp)
  · rw [exec_of_compareMemForm h]
    exact next_advance_eq_ended (s.cmpMem_eq l o) (by simp) (by simp) (by simp)

end Sys2Proof.Machine
end

section
/-! PROOF (O40, O41). The arithmetic on YA (42_arith16.md R212 to R217): each operation of the model is its rule on naturals, and
the word that ADDW, SUBW and MUL leave in YA is the word of a natural number. -/

namespace Sys2Proof.Machine

/-! ### The word of a natural number -/

/-- The low byte of the word of a natural number is its residue. -/
theorem loByte_ofNat (n : Nat) : loByte (BitVec.ofNat 16 n) = BitVec.ofNat 8 n := by
  apply BitVec.eq_of_toNat_eq
  rw [loByte_toNat, BitVec.toNat_ofNat, BitVec.toNat_ofNat]
  omega

/-- The high byte of the word of a natural number is its quotient by 256. -/
theorem hiByte_ofNat (n : Nat) : hiByte (BitVec.ofNat 16 n) = BitVec.ofNat 8 (n / 256) := by
  apply BitVec.eq_of_toNat_eq
  rw [hiByte_toNat, BitVec.toNat_ofNat, BitVec.toNat_ofNat]
  omega

/-- The word of a natural number written to YA with its N and Z (R212). -/
theorem State.setYA_setNZ16_ofNat (s : State) (n : Nat) :
    (s.setNZ16 (BitVec.ofNat 16 n)).setYA (BitVec.ofNat 16 n) =
      { s with a := BitVec.ofNat 8 n, y := BitVec.ofNat 8 (n / 256), psw := s.psw.nz16 (BitVec.ofNat 16 n) } := by
  rw [State.setNZ16_eq, State.setYA, loByte_ofNat, hiByte_ofNat]

/-! ### ADDW, SUBW and CMPW -/

/-- Signed overflow of a sum without carry: the rule with carry, for carry 0 (R212). -/
theorem msb_add_eq_overflows {w : Nat} (hw : 0 < w) (x m : BitVec w) :
    (~~~(x ^^^ m) &&& (x ^^^ (x + m))).msb = overflows w (x.toInt + m.toInt) := by
  simpa using msb_sum_eq_overflows hw x m false

/-- Signed overflow of a difference without borrow: the rule with borrow, for carry 1 (R212). -/
theorem msb_sub_eq_overflows {w : Nat} (hw : 0 < w) (x m : BitVec w) :
    ((x ^^^ m) &&& (x ^^^ (x - m))).msb = overflows w (x.toInt - m.toInt) := by
  simpa using msb_diff_eq_overflows hw x m true

/-- The sum of two words is the word of the sum on naturals. -/
theorem add_eq_ofNat (x m : Addr) : x + m = BitVec.ofNat 16 (x.toNat + m.toNat) := by
  rw [BitVec.ofNat_add, BitVec.ofNat_toNat, BitVec.ofNat_toNat, BitVec.setWidth_eq, BitVec.setWidth_eq]

/-- The difference of two words is the word of the difference on naturals, kept from below zero by 65536. -/
theorem sub_eq_ofNat (x m : Addr) : x - m = BitVec.ofNat 16 (x.toNat + 65536 - m.toNat) := by
  have hm := m.isLt
  apply BitVec.eq_of_toNat_eq
  rw [BitVec.toNat_sub, BitVec.toNat_ofNat]
  omega

/-- `addYA` is ADDW's rule on naturals, H the next draw (R213). -/
theorem State.addYA_eq (s : State) (w : Addr) :
    s.addYA w = { s with
      a := BitVec.ofNat 8 (s.ya.toNat + w.toNat)
      y := BitVec.ofNat 8 ((s.ya.toNat + w.toNat) / 256)
      draws := s.draws + 1
      psw := { s.psw.nz16 (s.ya + w) with
        c := decide (s.ya.toNat + w.toNat > 65535)
        v := overflows 16 (s.ya.toInt + w.toInt)
        h := Config.freeBit s.draws } } := by
  rw [← msb_add_eq_overflows (by decide), add_eq_ofNat]
  exact State.setYA_setNZ16_ofNat _ _

/-- `subYA` is SUBW's rule on naturals, H the next draw (R214). -/
theorem State.subYA_eq (s : State) (w : Addr) :
    s.subYA w = { s with
      a := BitVec.ofNat 8 (s.ya.toNat + 65536 - w.toNat)
      y := BitVec.ofNat 8 ((s.ya.toNat + 65536 - w.toNat) / 256)
      draws := s.draws + 1
      psw := { s.psw.nz16 (s.ya - w) with
        c := decide (s.ya.toNat ≥ w.toNat)
        v := overflows 16 (s.ya.toInt - w.toInt)
        h := Config.freeBit s.draws } } := by
  rw [← msb_sub_eq_overflows (by decide), State.subYA, sub_eq_ofNat]
  exact State.setYA_setNZ16_ofNat _ _

/-- `cmpYA` writes the flags of SUBW's difference but V and H (R217). -/
theorem State.cmpYA_eq (s : State) (w : Addr) :
    s.cmpYA w = { s with psw := { s.psw.nz16 (s.ya - w) with c := decide (s.ya.toNat ≥ w.toNat) } } :=
  State.setNZ16_eq _ _

/-- Settles O40: the operand word is read, then the operation done on YA; the reads change no register, no flag and no draw. -/
theorem wordArithmetic : Obligations.WordArithmetic := by
  intro s d
  refine ⟨?_, ?_, fun he => ?_⟩
  · exact next_advance_eq_ended ((s.touchDpWord d).addYA_eq (s.dpWord d)) rfl rfl rfl
  · exact next_advance_eq_ended ((s.touchDpWord d).subYA_eq (s.dpWord d)) rfl rfl rfl
  · refine (congrArg Host.Outcome.next (State.tierE_ext he _ _)).trans ?_
    exact next_advance_eq_ended ((s.touchDpWord d).cmpYA_eq (s.dpWord d)) rfl rfl rfl

/-! ### MUL and DIV -/

/-- The product of two bytes as words is the word of the product on naturals. -/
theorem mul_setWidth_eq_ofNat (x m : Byte) :
    x.setWidth 16 * m.setWidth 16 = BitVec.ofNat 16 (x.toNat * m.toNat) := by
  rw [BitVec.ofNat_mul, BitVec.ofNat_toNat, BitVec.ofNat_toNat]

/-- `mulYA` is MUL's rule on naturals, N and Z from the new Y (R215). -/
theorem State.mulYA_eq (s : State) :
    s.mulYA = { s with
      a := BitVec.ofNat 8 (s.y.toNat * s.a.toNat % 256)
      y := BitVec.ofNat 8 (s.y.toNat * s.a.toNat / 256)
      psw := s.psw.nz8 (BitVec.ofNat 8 (s.y.toNat * s.a.toNat / 256)) } := by
  have hlo (n : Nat) : BitVec.ofNat 8 (n % 256) = BitVec.ofNat 8 n := BitVec.eq_of_toNat_eq (by simp)
  rw [hlo, State.mulYA, mul_setWidth_eq_ofNat, State.setNZ8_eq, State.setYA, loByte_ofNat, hiByte_ofNat]

/-- DIV has a quotient of one byte exactly where Y is below X: the quotient of `Y * 256 + A` by X is below 256 there (R216). -/
theorem State.quotient_fits_iff (s : State) :
    (s.x ≠ 0 ∧ s.ya.toNat / s.x.toNat ≤ 255) ↔ s.y.toNat < s.x.toNat := by
  have ha := s.a.isLt
  have hx : s.x ≠ 0 ↔ 0 < s.x.toNat := by
    rw [ne_eq, BitVec.toNat_eq, Nat.pos_iff_ne_zero]
    rfl
  rw [hx, State.ya, wordOf_toNat]
  constructor
  · rintro ⟨hpos, hq⟩
    have := (Nat.div_lt_iff_lt_mul hpos).mp (Nat.lt_succ_of_le hq)
    omega
  · intro hlt
    have hpos : 0 < s.x.toNat := by omega
    exact ⟨hpos, Nat.le_of_lt_succ ((Nat.div_lt_iff_lt_mul hpos).mpr (by omega))⟩

/-- `divYA` with Y below X gives the quotient and the remainder, V and H the next two draws (R216). -/
theorem State.divYA_of_lt {s : State} (h : s.y.toNat < s.x.toNat) :
    s.divYA = { s with
      a := BitVec.ofNat 8 ((s.y.toNat * 256 + s.a.toNat) / s.x.toNat)
      y := BitVec.ofNat 8 ((s.y.toNat * 256 + s.a.toNat) % s.x.toNat)
      draws := s.draws + 2
      psw := { s.psw.nz8 (BitVec.ofNat 8 ((s.y.toNat * 256 + s.a.toNat) / s.x.toNat)) with
        v := Config.freeBit s.draws, h := Config.freeBit (s.draws + 1) } } := by
  rw [← wordOf_toNat, ← State.ya]
  exact (if_pos (s.quotient_fits_iff.mpr h)).trans (State.setNZ8_eq _ _)

/-- `divYA` with Y at or above X draws V, H, A, Y, N and Z in this order (R216; log 9). -/
theorem State.divYA_of_le {s : State} (h : s.x.toNat ≤ s.y.toNat) :
    s.divYA = { s with
      a := Config.freeByte (s.draws + 2)
      y := Config.freeByte (s.draws + 3)
      draws := s.draws + 6
      psw := { s.psw with
        v := Config.freeBit s.draws, h := Config.freeBit (s.draws + 1),
        n := Config.freeBit (s.draws + 4), z := Config.freeBit (s.draws + 5) } } :=
  if_neg (mt s.quotient_fits_iff.mp (Nat.not_lt.mpr h))

/-- Settles O41: MUL's word is the exact product, and DIV's two cases are the two sides of Y below X. -/
theorem multiplyDivide : Obligations.MultiplyDivide := fun s =>
  ⟨next_advance_eq_ended s.mulYA_eq rfl rfl rfl, fun h => next_advance_eq_ended (State.divYA_of_lt h) rfl rfl rfl,
    fun h => next_advance_eq_ended (State.divYA_of_le h) rfl rfl rfl⟩

end Sys2Proof.Machine
end

section
/-! PROOF (O42). The one-bit shifts and rotates of A and of memory (43_shift_rotate.md R218 to R234): each instruction is its
form's shift on its form's operand, written back to where it was read. -/

namespace Sys2Proof.Machine

/-- The effect of a shift on A, in the statement's terms. -/
theorem State.modifyA_shift (s : State) (op : ShiftOp) :
    s.modifyA op.apply = { s with a := op.value s.a s.psw.c, psw := op.flags s.a s.psw } := by
  rw [State.modifyA, ShiftOp.apply_eq]

/-- The effect of a shift on a memory byte: one read and one write at the same address (R59). -/
theorem Loc.modify_shift (l : Loc) (op : ShiftOp) (s : State) :
    l.modify op.apply s = State.memWrite { l.after s with psw := op.flags (l.value s) s.psw }
      (l.addr s) (op.value (l.value s) s.psw.c) := by
  rw [Loc.modify, ShiftOp.apply_eq, Loc.after_psw]

/-- Every shift of A does its operation on A. -/
theorem exec_shift_onA (op : ShiftOp) (s : State) : exec op.onA s = .next ((s.modifyA op.apply).advance op.onA) := by
  cases op <;> rfl

/-- Every instruction with a shift form of memory does the form's operation on the form's operand. -/
theorem exec_of_shiftMemForm {i : Instr} {op : ShiftOp} {l : Loc} (h : i.shiftMemForm = some (op, l)) (s : State) :
    exec i s = .next ((l.modify op.apply s).advance i) := by
  cases i
  case aslDp | aslDpX | aslAbs | lsrDp | lsrDpX | lsrAbs | rolDp | rolDpX | rolAbs | rorDp | rorDpX | rorAbs =>
    cases h
    rfl
  -- no other instruction shifts memory
  all_goals cases h

/-- Settles O42: the effect on A and on memory; the read and the write leave pc, cycle and parameters. -/
theorem shifts : Obligations.Shifts := by
  intro i op s
  refine ⟨?_, fun l h => ?_⟩
  · rw [exec_shift_onA]
    exact next_advance_eq_ended (s.modifyA_shift op) rfl rfl rfl
  · rw [exec_of_shiftMemForm h]
    exact next_advance_eq_ended (l.modify_shift op s) (by simp) (by simp) (by simp)

end Sys2Proof.Machine
end

section
/-! PROOF (O43 to O45). The bit operations and the instructions that test and branch (44_bit_ops.md R236 to R249;
46_control_flow.md R265 to R268). There are three shapes: a byte read, changed and written back; a byte read and a branch on a test
of it; a byte read and C taken from one of its bits. Each shape's end is brought to the statements' terms once. -/

namespace Sys2Proof.Machine

/-! ### A byte changed in place -/

/-- A change that answers the byte `v` and the flags `p`: one read and one write of the operand, nothing else (R59). -/
theorem next_modify_eq_ended (l : Loc) (f : Byte → State → Byte × State) {s : State} {v : Byte} {p : Psw}
    (hf : f (l.value s) (l.after s) = (v, { l.after s with psw := p })) (i : Instr) :
    (.next ((l.modify f s).advance i) : Result) =
      .next (State.ended (State.memWrite { l.after s with psw := p } (l.addr s) v) s i) :=
  next_advance_eq_ended (by rw [Loc.modify, hf]) (by simp) (by simp) (by simp)

/-- TSET1's change and its flags from `A - m`, in the statement's terms (R240). -/
theorem testSet_eq (m : Byte) (s : State) : testSet m s = (m ||| s.a, { s with psw := s.psw.nz8 (s.a - m) }) :=
  congrArg (Prod.mk _) (State.setNZ8_eq s _)

/-- TCLR1's change and its flags from `A - m`, in the statement's terms (R241). -/
theorem testClear_eq (m : Byte) (s : State) : testClear m s = (m &&& ~~~s.a, { s with psw := s.psw.nz8 (s.a - m) }) :=
  congrArg (Prod.mk _) (State.setNZ8_eq s _)

/-- A mask cleared and then set is the mask set, at every width. -/
theorem and_not_or_self {w : Nat} (v m : BitVec w) : v &&& ~~~m ||| m = v ||| m := by
  ext i
  simp [Bool.or_and_distrib_right]

/-- MOV1 sets the bit where C is 1 and clears it where C is 0 (R248). -/
theorem carryToBit_eq (b : BitVec 3) (v : Byte) (s : State) :
    carryToBit b v s = (if s.psw.c then v ||| bitMask b else v &&& ~~~(bitMask b), s) := by
  rw [carryToBit, carryByte]
  cases s.psw.c with
  | false => simp
  | true => exact congrArg (Prod.mk · s) (and_not_or_self v (bitMask b))

/-- Settles O43: each change is one read and one write; only TSET1 and TCLR1 write flags. -/
theorem bitChanges : Obligations.BitChanges := by
  intro s b d a
  refine ⟨next_modify_eq_ended (.dp d) (setBit b) rfl _, next_modify_eq_ended (.dp d) (clearBit b) rfl _,
    next_modify_eq_ended (.abs a) testSet (testSet_eq _ _) _, next_modify_eq_ended (.abs a) testClear (testClear_eq _ _) _,
    fun he => ⟨?_, ?_⟩⟩
  · refine (congrArg Host.Outcome.next (State.tierE_ext he _ _)).trans ?_
    exact next_modify_eq_ended (.abs a) (carryToBit b) (carryToBit_eq b _ _) _
  · refine (congrArg Host.Outcome.next (State.tierE_ext he _ _)).trans ?_
    exact next_modify_eq_ended (.abs a) (flipBit b) rfl _

/-! ### A test and a branch -/

/-- A branch after an effect that leaves pc, cycle and parameters ends as the statements have it, its test `taken` in their terms. -/
theorem next_branch_eq_branched {s t : State} {test taken : Bool} (e : test = taken) (hp : t.pc = s.pc)
    (hc : t.cycle = s.cycle) (hq : t.params = s.params) (i : Instr) (r : Byte) :
    (.next (t.branch i test r) : Result) = .next (t.branched s i taken r) := by
  rw [e, State.branch_eq_branched hp hc hq]

/-- The counter of DBNZ is zero after the decrement where it was 1 before (R265, R266). -/
theorem sub_one_bne_zero (v : Byte) : (v - 1 != 0) = decide (v ≠ 1) := by
  rw [Bool.eq_iff_iff, bne_iff_ne, decide_eq_true_iff, ne_eq, ne_eq, sub_eq_zero]

/-- Settles O44: a read leaves pc, cycle and parameters, and so do DBNZ's decrements; each test is the rule's. -/
theorem testAndBranch : Obligations.TestAndBranch := fun s _ d _ =>
  ⟨next_branch_eq_branched rfl rfl rfl rfl _ _,
    next_branch_eq_branched rfl rfl rfl rfl _ _,
    next_branch_eq_branched (sub_one_bne_zero s.y) rfl rfl rfl _ _,
    next_branch_eq_branched (t := (s.touch (s.dp d)).memWrite (s.dp d) _) (sub_one_bne_zero _)
      (by simp) (by simp) (by simp) _ _,
    next_branch_eq_branched decide_not.symm rfl rfl rfl _ _,
    next_branch_eq_branched decide_not.symm rfl rfl rfl _ _⟩

/-! ### C from a bit -/

/-- A tier E instruction that reads the byte at `m` and takes C from it, with EXT_OPCODES true (R242 to R247). -/
theorem next_carryFromBit_eq_ended {s : State} (he : s.params.extOpcodes = true) (i : Instr) (m : Addr) (c : Bool) :
    (.next (s.tierE i ((s.carryFromBit m c).advance i)) : Result) =
      .next (State.ended { s.touch m with psw := { s.psw with c := c } } s i) := by
  rw [State.tierE_ext he]
  exact next_advance_eq_ended rfl rfl rfl rfl

/-- Settles O45: the six instructions differ only in the value that C takes. -/
theorem carryBits : Obligations.CarryBits := fun _ m _ he =>
  ⟨next_carryFromBit_eq_ended he _ m _, next_carryFromBit_eq_ended he _ m _, next_carryFromBit_eq_ended he _ m _,
    next_carryFromBit_eq_ended he _ m _, next_carryFromBit_eq_ended he _ m _, next_carryFromBit_eq_ended he _ m _⟩

end Sys2Proof.Machine
end

section
/-! PROOF (O46). The conditional branches and BRA (45_branches.md R250 to R259): the eight differ only in the condition they
test, and none has an effect before the end of the instruction. -/

namespace Sys2Proof.Machine

/-- Every instruction with a conditional form branches on the form's condition, and does nothing else (R251 to R258). -/
theorem exec_of_condForm {i : Instr} {c : Cond} {r : Byte} (h : i.condForm = some (c, r)) (s : State) :
    exec i s = .next (s.branch i (c.holds s.psw) r) := by
  cases i
  case bpl | bmi | bvc | bvs | bcc | bcs | bne | beq =>
    cases h
    rfl
  -- no other instruction has a conditional form
  all_goals cases h

/-- Settles O46: a branch has no effect but its end, and BRA's is that of a jump, charged under the outcome not taken (N19). -/
theorem branches : Obligations.Branches := by
  intro i s
  refine ⟨fun c r h => ?_, fun r => ?_⟩
  · rw [exec_of_condForm h, State.branch_eq_branched rfl rfl rfl]
  · exact congrArg Host.Outcome.next (State.goto_eq_jumped rfl rfl (.bra r) _)

end Sys2Proof.Machine
end

section
/-! PROOF (O47). CALL, RET, JMP, TCALL and PCALL (46_control_flow.md R261 to R264, R269, R270): what a return address does to the
stack, where the vectors lie, and the end of a jump. -/

namespace Sys2Proof.Machine

/-! ### The return address on the stack -/

/-- Two pops have no side effect but SP's two steps (20_memory.md R43). -/
theorem State.popped_popped_eq (s : State) : s.popped.popped = { s with sp := s.sp + 2 } := by
  simp [add_assoc]

/-- The address two pops return is the RAM word at the two next stack addresses, low byte first (R43, R262). -/
theorem State.popWord_eq (s : State) :
    s.popWord = wordOf (s.ram.read (stackAddr (s.sp + 2))) (s.ram.read (stackAddr (s.sp + 1))) := by
  simp [State.popWord, State.popValue_eq, add_assoc]

/-- The stack lies below 0x0200 (R42). -/
theorem stackAddr_lt (sp : Byte) : (stackAddr sp).toNat < 0x0200 := by
  simp [stackAddr]
  omega

/-- A push changes no byte above the stack page. -/
theorem State.read_push_above (s : State) (v : Byte) {a : Addr} (h : 0x0200 ≤ a.toNat) :
    (s.push v).ram.read a = s.ram.read a := by
  have hne : a ≠ stackAddr s.sp := by
    rintro rfl
    exact absurd h (Nat.not_le.mpr (stackAddr_lt s.sp))
  rw [State.push_eq]
  exact s.ram.read_write_other hne v

/-- Nor does the push of a return address. -/
theorem State.read_pushWord_above (s : State) (w : Addr) {a : Addr} (h : 0x0200 ≤ a.toNat) :
    (s.pushWord w).ram.read a = s.ram.read a := by
  rw [State.pushWord, State.read_push_above _ _ h, State.read_push_above _ _ h]

/-! ### The vectors -/

/-- A word read at plain addresses is the RAM word (20_memory.md R31, R33). -/
theorem State.peekWord_of_plain (s : State) {a : Addr} (h : PlainAddr a) (h' : PlainAddr (a + 1)) :
    s.peekWord a = wordOf (s.ram.read (a + 1)) (s.ram.read a) := by
  rw [State.peekWord, State.peek_of_plain _ h, State.peek_of_plain _ h']
  rfl

/-- A word read at plain addresses has no side effect (R31). -/
theorem State.touchWord_of_plain (s : State) {a : Addr} (h : PlainAddr a) (h' : PlainAddr (a + 1)) : s.touchWord a = s := by
  rw [State.touchWord, State.touch_of_not_counter (counterAt_of_plain h), State.touch_of_not_counter (counterAt_of_plain h')]

/-- Both bytes of a vector are plain addresses (R38). -/
theorem plainAddr_callVector (n : BitVec 4) : PlainAddr (callVector n) ∧ PlainAddr (callVector n + 1) := by
  revert n
  decide

/-- Both bytes of a vector lie above the stack page (R38). -/
theorem callVector_above_stack (n : BitVec 4) : 0x0200 ≤ (callVector n).toNat ∧ 0x0200 ≤ (callVector n + 1).toNat := by
  revert n
  decide

/-- The two bytes of a vector on naturals (R269). -/
theorem callVector_eq_ofNat (n : BitVec 4) : callVector n = BitVec.ofNat 16 (0xFFDE - 2 * n.toNat) ∧
    callVector n + 1 = BitVec.ofNat 16 (0xFFDF - 2 * n.toNat) := by
  revert n
  decide

/-- Reading a vector has no side effect. -/
theorem State.touchWord_callVector (s : State) (n : BitVec 4) : s.touchWord (callVector n) = s :=
  s.touchWord_of_plain (plainAddr_callVector n).1 (plainAddr_callVector n).2

/-- A vector read after the push of a return address is the one that stood there before (R269). -/
theorem State.peekWord_callVector_pushWord (s : State) (w : Addr) (n : BitVec 4) :
    (s.pushWord w).peekWord (callVector n) = wordOf (s.ram.read (callVector n + 1)) (s.ram.read (callVector n)) := by
  obtain ⟨hlo, hhi⟩ := callVector_above_stack n
  obtain ⟨hp, hp'⟩ := plainAddr_callVector n
  rw [State.peekWord_of_plain _ hp hp', s.read_pushWord_above w hlo, s.read_pushWord_above w hhi]

/-- The target of PCALL is in the last page (R270). -/
theorem wordOf_lastPage (u : Byte) : wordOf 0xFF u = BitVec.ofNat 16 (0xFF00 + u.toNat) := by
  apply BitVec.eq_of_toNat_eq
  rw [wordOf_toNat, BitVec.toNat_ofNat, Nat.mod_eq_of_lt (by omega)]
  rfl

/-! ### The end of a jump -/

/-- A jump whose effect `u` is `t` and whose target `a` is `b` ends as the statements have it, where the effect leaves cycle and
parameters. -/
theorem next_goto_eq_jumped {s t u : State} {a b : Addr} (e : u = t) (ha : a = b) (hc : t.cycle = s.cycle)
    (hq : t.params = s.params) (i : Instr) : (.next (u.goto i false a) : Result) = .next (t.jumped s i b) := by
  rw [e, ha, State.goto_eq_jumped hc hq]

/-- A call with the return address `ret`, whose target `a` is `b`, ends with the two pushes done and nothing else (R261). -/
theorem next_pushWord_eq_jumped (s : State) (ret : Addr) {a b : Addr} (ha : a = b) (i : Instr) :
    (.next ((s.pushWord ret).goto i false a) : Result) =
      .next (((s.push (hiByte ret)).push (loByte ret)).jumped s i b) :=
  next_goto_eq_jumped rfl ha (by simp [State.pushWord]) (by simp [State.pushWord]) i

/-- Settles O47: a call is two pushes, a return two pops, and each ends as a jump; the vectors lie outside the stack and the register
window. -/
theorem callsAndJumps : Obligations.CallsAndJumps := by
  intro s a n u
  refine ⟨next_pushWord_eq_jumped s (s.pc + 3) rfl _, next_goto_eq_jumped s.popped_popped_eq s.popWord_eq rfl rfl _,
    next_goto_eq_jumped rfl rfl rfl rfl _, next_goto_eq_jumped rfl rfl rfl rfl _, fun he => ⟨?_, ?_⟩⟩
  · obtain ⟨hlo, hhi⟩ := callVector_eq_ofNat n
    rw [← hlo, ← hhi]
    refine (congrArg Host.Outcome.next (State.tierE_ext he _ _)).trans ?_
    rw [State.touchWord_callVector]
    exact next_pushWord_eq_jumped s (s.pc + 1) (s.peekWord_callVector_pushWord _ n) _
  · refine (congrArg Host.Outcome.next (State.tierE_ext he _ _)).trans ?_
    exact next_pushWord_eq_jumped s (s.pc + 2) (wordOf_lastPage u) _

end Sys2Proof.Machine
end

section
/-! PROOF (O30). The round trips through the stack (46_control_flow.md R262, R271; 60_exceptions.md R308): a pop gives back what
the push before it stored, and the pops after it find the stack as it was before that push. -/

namespace Sys2Proof.Machine

/-! ### Pops after pushes -/

/-- A pop returns the byte last pushed (20_memory.md R42, R43). -/
theorem State.popValue_push {s : State} (hm : s.MemoryOk) (v : Byte) : (s.push v).popValue = v :=
  ((pushPop s v).2.2.2 hm).1

/-- Below the byte pushed, a pop finds the byte it found before the push. -/
theorem State.popValue_popped_push (s : State) (v : Byte) : (s.push v).popped.popValue = s.popValue := by
  have hne : stackAddr (s.sp + 1#8) ≠ stackAddr s.sp := stackAddr_ne (by simp)
  simp [State.popValue_eq, State.push_eq, Memory.read_write_other _ hne]

/-- Below the byte pushed, two pops find the address they found before the push. -/
theorem State.popWord_popped_push (s : State) (v : Byte) : (s.push v).popped.popWord = s.popWord := by
  have hne : stackAddr (s.sp + 2#8) ≠ stackAddr s.sp := stackAddr_ne (by simp)
  have hne' : stackAddr (s.sp + 1#8) ≠ stackAddr s.sp := stackAddr_ne (by simp)
  simp [State.popWord_eq, State.push_eq, Memory.read_write_other _ hne, Memory.read_write_other _ hne']

/-- Two pops return the address last pushed (46_control_flow.md R262). -/
theorem State.popWord_pushWord {s : State} (hm : s.MemoryOk) (w : Addr) : (s.pushWord w).popWord = w := by
  rw [State.popWord, State.pushWord, State.popValue_popped_push, State.popValue_push hm,
    State.popValue_push (State.wf_push hm _), wordOf_hiByte_loByte]

@[simp] theorem State.pushWord_sp (s : State) (w : Addr) : (s.pushWord w).sp = s.sp - 2 := by
  simp [State.pushWord, sub_sub]

/-- The end of an instruction changes nothing that a pop reads. -/
@[simp] theorem State.popValue_goto (s : State) (i : Instr) (k : Bool) (a : Addr) : (s.goto i k a).popValue = s.popValue := rfl
@[simp] theorem State.trapReturn_goto (s : State) (i : Instr) (k : Bool) (a : Addr) :
    (s.goto i k a).trapReturn = s.trapReturn := rfl

/-! ### The trap's entry and the pops that leave it -/

/-- The byte on top of the stack in a trap is PSW as it was (60_exceptions.md R307). -/
theorem State.popValue_enterTrap {s : State} (hm : s.MemoryOk) (ret : Addr) : (s.enterTrap ret).popValue = s.psw.toByte :=
  calc
    (s.enterTrap ret).popValue = ((s.pushWord ret).push s.psw.toByte).popValue := by
      rw [State.popValue_eq, State.popValue_eq]; rfl
    _ = s.psw.toByte := State.popValue_push (State.wf_pushWord hm ret) _

/-- The address below it is the return address (R307, R308). -/
theorem State.trapReturn_enterTrap {s : State} (hm : s.MemoryOk) (ret : Addr) : (s.enterTrap ret).trapReturn = ret :=
  calc
    (s.enterTrap ret).trapReturn = ((s.pushWord ret).push s.psw.toByte).popped.popWord := by
      rw [State.trapReturn, State.popWord_eq, State.popWord_eq]; rfl
    _ = (s.pushWord ret).popWord := State.popWord_popped_push _ _
    _ = ret := State.popWord_pushWord hm ret

@[simp] theorem State.enterTrap_sp (s : State) (ret : Addr) : (s.enterTrap ret).sp = s.sp - 3 := by
  simp [State.enterTrap, State.pushWord, sub_sub]

/-- BRK enters the trap and goes to the handler; reading the vector has no side effect (47_flags_misc.md R284). -/
theorem exec_brk (s : State) :
    exec .brk s = .next (s.breakTrap.goto .brk false (s.breakTrap.peekWord trapVector)) := by
  exact congrArg (fun u : State => (.next (u.goto .brk false (s.breakTrap.peekWord trapVector)) : Result))
    (s.breakTrap.touchWord_callVector 0)

/-! ### The round trips -/

/-- CALL then RET comes back to the instruction after CALL, with SP as it was (46_control_flow.md R262). -/
theorem call_ret_roundTrip {s t u : State} {a : Addr} (hm : s.MemoryOk) (ht : exec (.call a) s = .next t)
    (hu : exec .ret t = .next u) : t.pc = a ∧ u.pc = s.pc + 3 ∧ u.sp = s.sp := by
  obtain rfl := Host.Outcome.next.inj ht
  obtain rfl := Host.Outcome.next.inj hu
  refine ⟨rfl, State.popWord_pushWord hm (s.pc + 3), ?_⟩
  simp [add_assoc]

/-- `u` is where a trap's handler in `t` returns to: PSW and then the address popped (60_exceptions.md R308). -/
structure State.ReturnsFromTrap (t u : State) : Prop where
  pc : u.pc = t.trapReturn
  psw : u.psw = Psw.ofByte t.popValue
  sp : u.sp = t.sp + 3

/-- RETI, where it executes, returns from a trap (46_control_flow.md R271). -/
theorem State.ReturnsFromTrap.reti {t u : State} (he : t.params.extOpcodes = true) (hu : exec .reti t = .next u) :
    t.ReturnsFromTrap u := by
  obtain rfl := Host.Outcome.next.inj (hu.symm.trans (congrArg Host.Outcome.next (State.tierE_ext he _ _)))
  exact ⟨rfl, rfl, by simp [State.leaveTrap, add_assoc]⟩

/-- So do POP PSW and RET (R308). -/
theorem State.ReturnsFromTrap.popPsw_ret {t u w : State} (hu : exec .popPsw t = .next u) (hw : exec .ret u = .next w) :
    t.ReturnsFromTrap w := by
  obtain rfl := Host.Outcome.next.inj hu
  obtain rfl := Host.Outcome.next.inj hw
  exact ⟨rfl, rfl, by simp [add_assoc]⟩

/-- A return from BRK's trap comes back to the address after BRK, with PSW and SP as they were (R308). -/
theorem brk_roundTrip {s t u : State} (hm : s.MemoryOk) (ht : exec .brk s = .next t) (hu : t.ReturnsFromTrap u) :
    u.pc = s.pc + 1 ∧ u.psw = s.psw ∧ u.sp = s.sp := by
  obtain rfl := Host.Outcome.next.inj ((exec_brk s).symm.trans ht)
  obtain ⟨hpc, hpsw, hsp⟩ := hu
  refine ⟨?_, ?_, ?_⟩
  · rw [hpc, State.trapReturn_goto, State.breakTrap, State.trapReturn_enterTrap hm]
    rfl
  · rw [hpsw, State.popValue_goto, State.breakTrap, State.popValue_enterTrap hm, Psw.ofByte_toByte]
  · rw [hsp, State.goto_sp, State.breakTrap, State.enterTrap_sp, sub_add_cancel]

/-- BRK leaves the parameters alone, EXT_OPCODES among them. -/
theorem params_of_brk {s t : State} (ht : exec .brk s = .next t) : t.params = s.params := (controlFrame .brk s t ht).1

/-- Settles O30: the pops find what the pushes stored, in the opposite order. -/
theorem returnsRoundTrip : Obligations.ReturnsRoundTrip := by
  refine ⟨fun s t u a => call_ret_roundTrip, fun s t u hm he ht hu => ?_, fun s t u w hm ht hu hw => ?_⟩
  · have ht' : t.params.extOpcodes = true := by rwa [params_of_brk ht]
    exact brk_roundTrip hm ht (.reti ht' hu)
  · exact brk_roundTrip hm ht (.popPsw_ret hu hw)

end Sys2Proof.Machine
end

section
/-! PROOF (O8, O13). The end of a step: what the timers and the samples leave, and where the sample loop leaves the sample
clock (60_exceptions.md R312, R313). -/

namespace Sys2Proof.Machine

/-! ### What the end of a step leaves -/

/-- `u` is `s` but for the timers, the DSP, the output and the two sample counters. -/
def State.SameCpu (s u : State) : Prop :=
  ∃ timers dsp out counter next,
    u = { s with timers := timers, dsp := dsp, out := out, sampleCounter := counter, nextSampleCycle := next }

/-- The timers' tick and the samples change those five fields alone (R312). -/
theorem State.sameCpu_endStep (s : State) : s.SameCpu s.endStep := by
  refine State.endStep_keeps (P := s.SameCpu) ?_ ?_ ⟨s.timers, s.dsp, s.out, s.sampleCounter, s.nextSampleCycle, rfl⟩
  · rintro u ⟨ts, d, out, n, m, rfl⟩
    exact ⟨_, d, out, n, m, rfl⟩
  · rintro u ⟨ts, d, out, n, m, rfl⟩
    exact ⟨ts, _, _, _, _, rfl⟩

/-- Settles O8: none of the fields named is among the five. -/
theorem endStepLeavesCpu : Obligations.EndStepLeavesCpu := by
  intro s
  obtain ⟨ts, d, out, n, m, h⟩ := s.sameCpu_endStep
  simp [h]

/-! ### The sample clock -/

/-- The sample clock where 64 cycles a sample put it, with samples that may be due and not yet produced: the invariant of the
loop of R312 item 4. -/
structure State.SamplesDue (s : State) : Prop where
  next : s.nextSampleCycle = 64 * (s.sampleCounter + 1)
  counted : 64 * s.sampleCounter ≤ s.cycle
  out : s.out.length = s.sampleCounter

theorem State.samplesDue_iff (s : State) : s.SamplesDue ↔
    s.nextSampleCycle = 64 * (s.sampleCounter + 1) ∧ 64 * s.sampleCounter ≤ s.cycle ∧ s.out.length = s.sampleCounter :=
  ⟨fun h => ⟨h.next, h.counted, h.out⟩, fun ⟨next, counted, out⟩ => ⟨next, counted, out⟩⟩

/-- A sample that is due moves the clock on and appends its pair (R312). -/
theorem State.SamplesDue.produceSample {s : State} (h : s.SamplesDue) (hdue : s.nextSampleCycle ≤ s.cycle) :
    s.produceSample.SamplesDue where
  next := by simp [h.next]; omega
  counted := by simpa [← h.next] using hdue
  out := by simp [State.produceSample, h.out]

/-- The sample loop produces only samples that are due. -/
theorem State.SamplesDue.produceSamples {s : State} (h : s.SamplesDue) (fuel : Nat) : (produceSamples fuel s).SamplesDue := by
  induction fuel generalizing s with
  | zero => exact h
  | succ n ih =>
    unfold Machine.produceSamples
    split
    · exact ih (h.produceSample ‹_›)
    · exact h

/-- The end of a step that has not raised takes the sample clock past `cycle`: its fuel is enough for every sample due
(log 14). -/
theorem State.SamplesDue.endStep {s : State} (h : s.SamplesDue) (hr : s.run ≠ .faulted) : s.endStep.SchedulerOk := by
  have loop : s.endStep = Machine.produceSamples (s.cycle + 1 - s.nextSampleCycle) s.timersTick := by
    unfold State.endStep
    cases hrun : s.run <;> simp_all
  have ticked : s.timersTick.SamplesDue := ⟨h.next, h.counted, h.out⟩
  obtain ⟨hnext, hcounted, hout⟩ := ticked.produceSamples (s.cycle + 1 - s.nextSampleCycle)
  have hdone := produceSamples_done (s.cycle + 1 - s.nextSampleCycle) s.timersTick (by simp; omega)
  rw [loop]
  exact ⟨hnext, hcounted, hdone, hout⟩

/-- The effect of an instruction leaves the sample clock and `cycle`, and does not fault a CPU that is not faulted (R312, R20). -/
theorem ControlEffect.samplesDue {i : Instr} {s u : State} (he : ControlEffect i s u) (h : s.SamplesDue)
    (hr : s.run ≠ .faulted) : u.SamplesDue ∧ u.run ≠ .faulted := by
  rw [State.samplesDue_iff] at h ⊢
  cases he with
  | keeps hu => simp_all [State.control]
  | draws hi n hu => simp_all [State.control]
  | halts hi hu => simp_all [State.control]

/-- Settles O13: an instruction leaves the clock, its cost lets samples fall due, and the end of the step produces them; where it
raises UnknownOpcode the step ends with `cycle` as it was. -/
theorem stepKeepsScheduler : Obligations.StepKeepsScheduler := by
  intro s t hs h
  obtain ⟨hr, u, hu, rfl⟩ := step_eq_next h
  have fetched : s.afterFetch.SchedulerOk := State.afterFetch_keeps (P := State.SchedulerOk) (fun _ _ => id) hs
  have running : s.afterFetch.run = .running := State.afterFetch_keeps (P := (·.run = .running)) (fun _ _ => id) hr
  have ok : u.endStep.SchedulerOk := by
    obtain ⟨hnext, hcounted, -, hout⟩ := id fetched
    cases Completion.of_exec hu with
    | raises => exact fetched
    | ends w taken target he =>
      obtain ⟨hdue, hrun⟩ := he.samplesDue ⟨hnext, hcounted, hout⟩ (by simp [running])
      exact State.SamplesDue.endStep ⟨hdue.next, hdue.counted.trans (Nat.le_add_right _ _), hdue.out⟩ hrun
  obtain ⟨hnext, hcounted, hlt, -⟩ := id ok
  exact ⟨ok, by omega⟩

end Sys2Proof.Machine
end

section
/-! PROOF (O52, O53). The timers: their registers behind the memory fabric, and how many ticks a count takes (60_exceptions.md
R315 to R320). -/

namespace Sys2Proof.Machine

/-! ### The registers -/

/-- A write to Control with bit `j` clear disables timer `j`, every field of it 0 (R317). -/
theorem State.timers_memWrite_control {v : Byte} {j : Fin 3} (h : v.getLsbD j.val = false) (s : State) :
    (s.memWrite 0x00F1#16 v).timers.get j = Timer.off := by
  obtain ⟨hcontrol, -⟩ := windowWrites s v
  rw [hcontrol]
  simp [Vector.get_eq_getElem, h, Timer.off]

/-- A counter that is 0 reads as 0 (R319). -/
theorem State.peek_counter_of_zero {s : State} {j : Fin 3} (h : (s.timers.get j).counter = 0) :
    s.peek (0x00FD#16 + BitVec.ofNat 16 j.val) = 0 := by
  rw [State.peek_counter (counterAt_counter j), h]
  rfl

/-- Settles O52: a read gives the counter and clears it, and a write to Control with bit `j` clear leaves timer `j` off. -/
theorem timerRegisters : Obligations.TimerRegisters := by
  intro s j v
  have cleared : (s.touch (0x00FD#16 + BitVec.ofNat 16 j.val)).timers.get j = { s.timers.get j with counter := 0 } := by
    rw [State.timers_touch, if_pos rfl]
  refine ⟨?_, cleared, ?_, ?_, fun h => ⟨s.timers_memWrite_control h, ?_⟩⟩
  · rw [State.peek_counter (counterAt_counter j)]
    exact BitVec.toNat_setWidth_of_le (by decide)
  · exact State.peek_counter_of_zero (by rw [cleared])
  · match j with
    | 0 | 1 | 2 => rfl
  · exact State.peek_counter_of_zero (by rw [s.timers_memWrite_control h]; rfl)

/-! ### The rate -/

/-- How many ticks of the pre-divider a count takes: the divisor, 0 meaning 256 (R320). -/
def ticksPerCount (divisor : Byte) : Nat := if divisor = 0 then 256 else divisor.toNat

theorem ticksPerCount_bounds (divisor : Byte) : 0 < ticksPerCount divisor ∧ ticksPerCount divisor ≤ 256 := by
  have hlt := divisor.isLt
  unfold ticksPerCount
  split
  · decide
  · have hne : divisor.toNat ≠ 0 := fun e => ‹divisor ≠ 0› (BitVec.eq_of_toNat_eq e)
    omega

/-- An enabled timer whose pre-divider stands at `n`, before its first count. -/
def Timer.counting (j : Fin 3) (divisor : Byte) (cycle n : Nat) : Timer :=
  { Timer.enable j divisor cycle with nextTick := cycle + (n + 1) * period j, pre := BitVec.ofNat 8 n }

/-- The pre-divider meets the divisor after as many ticks as a count takes, and not before (R318, R320). -/
theorem ofNat_add_one_eq_divisor_iff {divisor : Byte} {n : Nat} (h : n < ticksPerCount divisor) :
    BitVec.ofNat 8 n + 1 = divisor ↔ n + 1 = ticksPerCount divisor := by
  have hd := divisor.isLt
  rw [BitVec.toNat_eq, BitVec.toNat_add, BitVec.toNat_ofNat, ticksPerCount]
  rw [ticksPerCount] at h
  by_cases h0 : divisor = 0
  · simp only [h0, if_true] at h ⊢
    simp
    omega
  · simp only [h0, if_false] at h ⊢
    simp
    omega

/-- A due tick moves the pre-divider on, or makes the count where it meets the divisor (R318). -/
theorem Timer.tick_counting (j : Fin 3) {divisor : Byte} (cycle : Nat) {n : Nat} (h : n < ticksPerCount divisor) :
    (Timer.counting j divisor cycle n).tick j (Timer.counting j divisor cycle n).nextTick =
      if n + 1 = ticksPerCount divisor then
        { Timer.counting j divisor cycle (n + 1) with pre := 0, counter := 1 }
      else Timer.counting j divisor cycle (n + 1) := by
  have period_add : cycle + (n + 1) * period j + period j = cycle + (n + 1 + 1) * period j := by ring
  have due : (Timer.counting j divisor cycle n).enabled = true ∧
    (Timer.counting j divisor cycle n).nextTick ≥ (Timer.counting j divisor cycle n).nextTick := ⟨rfl, le_rfl⟩
  rw [Timer.tick, if_pos due]
  simp only [Timer.counting, Timer.enable, ofNat_add_one_eq_divisor_iff h, period_add, BitVec.ofNat_add]
  rfl

/-- The last of `n + 1` due ticks comes after the `n` before it. -/
theorem dueTicks_succ (j : Fin 3) (n : Nat) (t : Timer) :
    dueTicks j (n + 1) t = (dueTicks j n t).tick j (dueTicks j n t).nextTick := by
  induction n generalizing t with
  | zero => rfl
  | succ n ih => exact ih _

/-- Before the count the ticks since the enable stand in the pre-divider (R316, R318). -/
theorem dueTicks_enable (j : Fin 3) {divisor : Byte} (cycle : Nat) {n : Nat} (h : n < ticksPerCount divisor) :
    dueTicks j n (Timer.enable j divisor cycle) = Timer.counting j divisor cycle n := by
  induction n with
  | zero => simp [dueTicks, Timer.counting, Timer.enable]
  | succ n ih => rw [dueTicks_succ, ih (by omega), Timer.tick_counting j cycle (by omega), if_neg (by omega)]

/-- Settles O53: the pre-divider counts the ticks up to the divisor, and the tick that meets it makes the count. -/
theorem timerRate : Obligations.TimerRate := by
  intro j divisor cycle
  obtain ⟨hpos, hle⟩ := ticksPerCount_bounds divisor
  refine ⟨fun n hn => ?_, ?_, fun t now h => ?_⟩
  · rw [dueTicks_enable j cycle hn]
    exact ⟨rfl, (BitVec.toNat_ofNat ..).trans (Nat.mod_eq_of_lt (hn.trans_le hle))⟩
  · change dueTicks j (ticksPerCount divisor) _ =
      { Timer.enable j divisor cycle with nextTick := cycle + (ticksPerCount divisor + 1) * period j, counter := 1 }
    obtain ⟨n, hn⟩ := Nat.exists_eq_add_one.mpr hpos
    rw [hn, dueTicks_succ, dueTicks_enable j cycle (by omega), Timer.tick_counting j cycle (by omega), if_pos hn.symm]
    rfl
  · rw [Timer.tick, if_neg]
    rintro ⟨he, hn⟩
    rcases h with h | h
    · simp [h] at he
    · omega

end Sys2Proof.Machine
end

section
/-! PROOF (O56). What a block's decode depends on: its nine bytes and `prev_brr` (60_exceptions.md R327, R328). -/

namespace Sys2Proof.Machine

/-- The two voices stand at the same place of the same block's decode: the same address, header fields and `prev_brr`; the decoded
samples and the rest of the voices may differ. -/
structure Voice.SameDecode (x y : Voice) : Prop where
  curAddr : x.curAddr = y.curAddr
  prevBrr : x.prevBrr = y.prevBrr
  filter : x.blk.filter = y.blk.filter
  loop : x.blk.loop = y.blk.loop
  last : x.blk.last = y.blk.last

/-- The two RAMs agree on the nine bytes of the block at `a` (R327). -/
def SameBlock (ram ram' : Memory) (a : Addr) : Prop :=
  ∀ j : Nat, j ≤ 8 → ram.read (a + BitVec.ofNat 16 j) = ram'.read (a + BitVec.ofNat 16 j)

/-- Byte 0 is the header (R327). -/
theorem SameBlock.header {ram ram' : Memory} {a : Addr} (h : SameBlock ram ram' a) : ram.read a = ram'.read a := by
  simpa using h 0 (by omega)

/-- Bytes 1 to 8 hold the nibbles, two to a byte (R327). -/
theorem SameBlock.nibble {ram ram' : Memory} {a : Addr} (h : SameBlock ram ram' a) (k : Fin 16) :
    brrNibble ram a k = brrNibble ram' a k := by
  have hbyte : ram.read (a + 1 + BitVec.ofNat 16 (k.val / 2)) = ram'.read (a + 1 + BitVec.ofNat 16 (k.val / 2)) := by
    simpa [BitVec.ofNat_add, add_assoc] using h (1 + k.val / 2) (by omega)
  rw [brrNibble, brrNibble, hbyte]

/-- The sample that one turn of the decode adds (R328). -/
def brrOut (ram : Memory) (x : Voice) (k : Fin 16) : Int :=
  brrFilter x.blk.filter (brrScale ((ram.read x.curAddr).extractLsb' 4 4) (brrNibble ram x.curAddr k))
    (x.prevBrr.get 1) (x.prevBrr.get 0)

theorem brrStep_eq (ram : Memory) (x : Voice) (k : Fin 16) :
    brrStep ram x k = { x with
      blk := { x.blk with samples := x.blk.samples.set k.val (brrOut ram x k) k.isLt }
      prevBrr := #v[x.prevBrr.get 1, brrOut ram x k] } := rfl

section
variable {ram ram' : Memory} {x y : Voice}

theorem Voice.SameDecode.brrOut (h : x.SameDecode y) (hram : SameBlock ram ram' x.curAddr) (k : Fin 16) :
    brrOut ram x k = brrOut ram' y k := by
  rw [Machine.brrOut, Machine.brrOut, h.filter, h.prevBrr, hram.header, hram.nibble, h.curAddr]

/-- A turn takes two voices at the same place to the same place (R328). -/
theorem Voice.SameDecode.brrStep (h : x.SameDecode y) (hram : SameBlock ram ram' x.curAddr) (k : Fin 16) :
    (brrStep ram x k).SameDecode (brrStep ram' y k) := by
  have hout := h.brrOut hram k
  rw [brrStep_eq, brrStep_eq]
  exact ⟨h.curAddr, by rw [hout, h.prevBrr], h.filter, h.loop, h.last⟩

theorem samples_brrStep (ram : Memory) (x : Voice) (k j : Fin 16) :
    (brrStep ram x k).blk.samples.get j = if j = k then brrOut ram x k else x.blk.samples.get j := by
  rw [brrStep_eq]
  simp [Vector.get_eq_getElem, Vector.getElem_set, Fin.ext_iff, eq_comm]

/-- Turns for the samples `ks` keep the two voices at the same place, and give them the same sample wherever a turn was taken or
the samples were the same before (R328). -/
theorem Voice.SameDecode.foldl_brrStep (h : x.SameDecode y) (hram : SameBlock ram ram' x.curAddr) (ks : List (Fin 16)) :
    (ks.foldl (Machine.brrStep ram) x).SameDecode (ks.foldl (Machine.brrStep ram') y) ∧
      ∀ j, j ∈ ks ∨ x.blk.samples.get j = y.blk.samples.get j →
        (ks.foldl (Machine.brrStep ram) x).blk.samples.get j = (ks.foldl (Machine.brrStep ram') y).blk.samples.get j := by
  induction ks generalizing x y with
  | nil => exact ⟨h, fun j hj => by simpa using hj⟩
  | cons k ks ih =>
    obtain ⟨same, samples⟩ := ih (h.brrStep hram k) hram
    refine ⟨same, fun j hj => samples j ?_⟩
    rw [samples_brrStep, samples_brrStep, h.brrOut hram k]
    by_cases e : j = k
    · simp [e]
    · simpa [e] using hj

theorem Voice.SameDecode.readHeader (ha : x.curAddr = y.curAddr) (hp : x.prevBrr = y.prevBrr)
    (hram : SameBlock ram ram' x.curAddr) : (readHeader ram x).SameDecode (readHeader ram' y) := by
  rw [Machine.readHeader, Machine.readHeader, hram.header, ha]
  exact ⟨rfl, hp, rfl, rfl, rfl⟩

end

theorem Block.eq_of_fields {b c : Block} (samples : b.samples = c.samples) (filter : b.filter = c.filter)
    (loop : b.loop = c.loop) (last : b.last = c.last) : b = c := by
  cases b
  cases c
  simp_all

theorem mem_sampleIds (k : Fin 16) : k ∈ sampleIds := by
  revert k
  decide

/-- Settles O56: both decodes begin at the same place, and a turn is taken for every sample. -/
theorem blockDecodeLocal : Obligations.BlockDecodeLocal := by
  intro ram ram' x y ha hp hram
  obtain ⟨same, samples⟩ := (Voice.SameDecode.readHeader ha hp hram).foldl_brrStep hram sampleIds
  have decoded : (decodeBlock ram x).blk.samples = (decodeBlock ram' y).blk.samples :=
    Vector.ext fun j hj => samples ⟨j, hj⟩ (.inl (mem_sampleIds _))
  exact ⟨Block.eq_of_fields decoded same.filter same.loop same.last, same.prevBrr⟩

end Sys2Proof.Machine
end

section
/-! PROOF (O55, O57, O58). A sample of the DSP: what it leaves alone, the pitch, and the mix (60_exceptions.md R331 to R339). -/

namespace Sys2Proof.Machine

/-! ### A voice's turn leaves every other register and voice -/

/-- The next block sets a bit of ENDX, and no other register (R334). -/
theorem nextBlock_reg (ram : Memory) (v : Fin 8) (d : Dsp) {k : BitVec 7} (hk : k ≠ regEndx) :
    (nextBlock ram v d).reg k = d.reg k := by
  dsimp only [nextBlock]
  split_ifs <;> simp [Dsp.reg_setReg_other _ hk]

theorem nextBlock_voice_other (ram : Memory) {v w : Fin 8} (h : w ≠ v) (d : Dsp) : (nextBlock ram v d).voice w = d.voice w := by
  dsimp only [nextBlock]
  split_ifs <;> simp [Dsp.voice_setVoice_other _ h]

theorem pitchStep_reg (ram : Memory) (v : Fin 8) (d : Dsp) {k : BitVec 7} (hk : k ≠ regEndx) :
    (pitchStep ram v d).reg k = d.reg k := by
  dsimp only [pitchStep]
  split_ifs <;> simp [nextBlock_reg _ _ _ hk]

theorem pitchStep_voice_other (ram : Memory) {v w : Fin 8} (h : w ≠ v) (d : Dsp) : (pitchStep ram v d).voice w = d.voice w := by
  dsimp only [pitchStep]
  split_ifs <;> simp [nextBlock_voice_other _ h, Dsp.voice_setVoice_other _ h]

/-- A voice's turn writes its VxENVX and VxOUTX, and ENDX (R332). -/
theorem voiceStep_reg (T : DspTables) (ram : Memory) (n : Nat) (v : Fin 8) (d : Dsp) {k : BitVec 7} (hk : k ≠ regEndx)
    (h8 : k ≠ voiceReg v 8) (h9 : k ≠ voiceReg v 9) : (voiceStep T ram n v d).1.reg k = d.reg k := by
  dsimp only [voiceStep]
  rw [Dsp.reg_setReg_other _ h9, Dsp.reg_setReg_other _ h8, Dsp.reg_setVoice, pitchStep_reg _ _ _ hk]

theorem voiceStep_voice_other (T : DspTables) (ram : Memory) (n : Nat) {v w : Fin 8} (h : w ≠ v) (d : Dsp) :
    (voiceStep T ram n v d).1.voice w = d.voice w := by
  dsimp only [voiceStep]
  rw [Dsp.voice_setReg, Dsp.voice_setReg, Dsp.voice_setVoice_other _ h, pitchStep_voice_other _ h]

/-- ENDX is no voice's VxENVX or VxOUTX (10_state.md R25). -/
theorem voiceReg_ne_endx (v : Fin 8) : voiceReg v 8 ≠ regEndx ∧ voiceReg v 9 ≠ regEndx := by
  revert v
  decide

/-- What every turn of an enabled voice keeps, the sample keeps (R331). -/
theorem dspSample_keeps {P : Dsp → Prop} (T : DspTables) (ram : Memory) (n : Nat)
    (turn : ∀ d v, (d.voice v).enabled = true → P d → P (voiceStep T ram n v d).1) {d : Dsp} (h : P d) :
    P (dspSample T ram n d).1 := by
  dsimp only [dspSample]
  refine List.foldlRecOn (motive := fun m : MixState => P m.dsp) voiceIds _ h fun m hm v _ => ?_
  unfold mixVoice
  split
  · exact turn _ _ ‹_› hm
  · exact hm

/-- Voice `v` and its two registers are the same in both. -/
structure SameVoice (v : Fin 8) (d e : Dsp) : Prop where
  voice : d.voice v = e.voice v
  envx : d.reg (voiceReg v 8) = e.reg (voiceReg v 8)
  outx : d.reg (voiceReg v 9) = e.reg (voiceReg v 9)

/-- Another voice's turn leaves a voice and its two registers (R332). -/
theorem SameVoice.voiceStep {v w : Fin 8} {d e : Dsp} (h : SameVoice v d e) (hne : v ≠ w) (T : DspTables) (ram : Memory)
    (n : Nat) : SameVoice v (voiceStep T ram n w d).1 e := by
  have other (f g : BitVec 4) : voiceReg v f ≠ voiceReg w g := fun e => hne (voiceReg_inj e).1
  obtain ⟨h8, h9⟩ := voiceReg_ne_endx v
  constructor
  · rw [voiceStep_voice_other T ram n hne, h.voice]
  · rw [voiceStep_reg T ram n w d h8 (other 8 8) (other 8 9), h.envx]
  · rw [voiceStep_reg T ram n w d h9 (other 9 8) (other 9 9), h.outx]

/-- Settles O55: a turn writes three registers, and a voice that is not enabled has none. -/
theorem dspSampleFrame : Obligations.DspSampleFrame := by
  intro T ram n d
  refine ⟨fun k hk hv => ?_, fun v hoff => ?_⟩
  · refine dspSample_keeps (P := fun e => e.reg k = d.reg k) T ram n (fun e v _ he => ?_) rfl
    rw [voiceStep_reg T ram n v e hk (hv v).1 (hv v).2, he]
  · have same : SameVoice v (dspSample T ram n d).1 d := by
      refine dspSample_keeps (P := fun e => SameVoice v e d) T ram n (fun e w hon he => ?_) ⟨rfl, rfl, rfl⟩
      have hne : v ≠ w := by
        rintro rfl
        simp [he.voice, hoff] at hon
      exact he.voiceStep hne T ram n
    exact ⟨same.voice, same.envx, same.outx⟩

/-! ### The pitch -/

/-- A voice replaced by itself. -/
theorem Dsp.setVoice_voice (d : Dsp) (v : Fin 8) : d.setVoice v (d.voice v) = d := by
  simp [Dsp.setVoice, Dsp.voice, Vector.get_eq_getElem]

/-- Settles O57: the pitch is six bits and eight, and pitch 0 adds nothing to the accumulator. -/
theorem pitch : Obligations.Pitch := by
  intro d v ram
  refine ⟨by simp [Dsp.pitch], Nat.le_of_lt_succ (d.pitch_lt v), fun h0 hacc => ?_⟩
  have below : ¬ (d.voice v).pitchCounter + d.pitch v ≥ 0x10000 := by omega
  rw [pitchStep, if_neg below, h0]
  exact d.setVoice_voice v

/-! ### The mix -/

/-- A channel of the mix is within 16 bits, so its pattern gives it back (R338). -/
theorem toInt_mixChannel (acc : Int) (volume : Byte) :
    (BitVec.ofInt 16 (mixChannel acc volume)).toInt = max (-32768) (min 32767 (acc * volume.toInt / 128)) := by
  have hclamp : mixChannel acc volume = max (-32768) (min 32767 (acc * volume.toInt / 128)) := by
    unfold mixChannel clamp asr
    split_ifs <;> omega
  rw [BitVec.toInt_ofInt, hclamp]
  exact Int.bmod_eq_of_le (by omega) (by omega)

/-- With no voice enabled every turn is skipped (R331). -/
theorem foldl_mixVoice_of_disabled (T : DspTables) (ram : Memory) (n : Nat) {m : MixState}
    (h : ∀ v, (m.dsp.voice v).enabled = false) (vs : List (Fin 8)) : vs.foldl (mixVoice T ram n) m = m := by
  induction vs with
  | nil => rfl
  | cons v vs ih =>
    have skip : mixVoice T ram n m v = m := by simp [mixVoice, h v]
    rw [List.foldl_cons, skip, ih]

/-- Settles O58: each channel is clamped to 16 bits, the mute bit zeroes both, and no turn leaves both accumulators 0. -/
theorem mixOutput : Obligations.MixOutput := by
  intro T ram n d l r
  refine ⟨fun hmute => ?_, fun hmute => if_pos hmute, fun hoff => ?_⟩
  · have unmuted : mixSample d l r = _ := if_neg (Bool.eq_false_iff.mp hmute)
    rw [unmuted]
    exact ⟨toInt_mixChannel l _, toInt_mixChannel r _⟩
  · have silent : mixSample d 0 0 = { left := 0, right := 0 } := by
      unfold mixSample
      split
      · rfl
      · simp [mixChannel, asr, clamp]
    rw [dspSample, foldl_mixVoice_of_disabled T ram n hoff]
    exact congrArg (Prod.mk d) silent

end Sys2Proof.Machine
end

section
/-! PROOF (O59, O60). The envelope: Release runs down to 0, and the due and the not-due steps of the other phases and of GAIN
(60_exceptions.md R330, R336). -/

namespace Sys2Proof.Machine

/-! ### Release -/

theorem envStep_of_release {x : Voice} (h : x.phase = .release) (T : DspTables) (n : Nat) (a1 a2 g : Byte) :
    envStep T n a1 a2 g x = envRelease x := if_pos h

/-- A step of Release takes 8 off the envelope, not below 0 (R336). -/
theorem envRelease_env (x : Voice) : (envRelease x).env = max (x.env - 8) 0 := by
  dsimp only [envRelease]
  split_ifs <;> omega

theorem envRelease_phase (x : Voice) : (envRelease x).phase = x.phase := rfl

/-- The step that reaches 0 disables the voice (R336). -/
theorem envRelease_enabled {x : Voice} (h : (envRelease x).env = 0) : (envRelease x).enabled = false := by
  have off : (envRelease x).enabled = (x.enabled && decide ((envRelease x).env ≠ 0)) := rfl
  simp [off, h]

/-- As many steps of Release as the envelope has eighths end it, one at least (R330, R336). -/
theorem envSteps_release_ends (T : DspTables) (a1 a2 g : Byte) (k n : Nat) {x : Voice} (hp : x.phase = .release)
    (h : x.env ≤ 8 * (k + 1)) :
    (envSteps T a1 a2 g (k + 1) n x).env = 0 ∧ (envSteps T a1 a2 g (k + 1) n x).enabled = false := by
  have henv := envRelease_env x
  induction k generalizing n x with
  | zero =>
    have h0 : (envRelease x).env = 0 := by omega
    rw [envSteps, envSteps, envStep_of_release hp]
    exact ⟨h0, envRelease_enabled h0⟩
  | succ k ih =>
    rw [envSteps, envStep_of_release hp]
    exact ih (n + 1) ((envRelease_phase x).trans hp) (by omega) (envRelease_env _)

/-- Settles O59: a legal envelope is at most 2047, below 256 steps of 8. -/
theorem releaseEnds : Obligations.ReleaseEnds := by
  intro T a1 a2 g n x hp ⟨_, hle, _⟩
  refine ⟨?_, envSteps_release_ends T a1 a2 g 255 n hp (by omega)⟩
  rw [envStep_of_release hp, envRelease_env]

/-! ### The other phases -/

section
variable {x : Voice} (hp : x.phase ≠ .release) {a1 g : Byte} (T : DspTables) {n : Nat} (a2 : Byte)
include hp

theorem envStep_of_adsr (ha : a1.getLsbD 7 = true) :
    envStep T n a1 a2 g x = if x.nextCounter ≤ n then envAdsr T n a1 a2 x else x := by
  rw [envStep, if_neg hp, if_pos ha]

theorem envStep_of_gain (ha : a1.getLsbD 7 = false) (hg : g.getLsbD 7 = true) :
    envStep T n a1 a2 g x = if x.nextCounter ≤ n then envGain T n g x else x := by
  rw [envStep, if_neg hp, if_neg (Bool.eq_false_iff.mp ha), if_pos hg]

/-- Direct GAIN: sixteen times the seven low bits, which are the whole byte (R336). -/
theorem envStep_of_direct (ha : a1.getLsbD 7 = false) (hg : g.getLsbD 7 = false) :
    envStep T n a1 a2 g x = { x with env := (g.toNat * 16 : Nat) } := by
  have low : (g.extractLsb' 0 7 : BitVec 7).toNat = g.toNat := by
    have hlt : g.toNat < 128 := by
      have := BitVec.msb_eq_false_iff_two_mul_lt.mp (show g.msb = false from hg)
      omega
    rw [BitVec.extractLsb'_toNat]
    simp
    omega
  rw [envStep, if_neg hp, if_neg (Bool.eq_false_iff.mp ha), if_neg (Bool.eq_false_iff.mp hg), low]

end

/-! ### The fields of the registers, on naturals -/

/-- A field of a byte is the quotient by its weight, modulo its size. -/
theorem field_eq_ofNat (v : Byte) (lo width : Nat) :
    v.extractLsb' lo width = BitVec.ofNat width (v.toNat / 2 ^ lo % 2 ^ width) := by
  rw [extractLsb'_eq_ofNat]
  exact BitVec.eq_of_toNat_eq (by simp)

/-- The attack rate, `ar` of VxADSR1 (R336). -/
theorem attackField_eq_ofNat (v : Byte) : v.extractLsb' 0 4 = BitVec.ofNat 4 (v.toNat % 16) := by
  simpa using field_eq_ofNat v 0 4

/-- The decay rate, `dr` of VxADSR1 (R336). -/
theorem decayField_eq_ofNat (v : Byte) : v.extractLsb' 4 3 = BitVec.ofNat 3 (v.toNat / 16 % 8) := field_eq_ofNat v 4 3

/-- The sustain level, `sl` of VxADSR2 (R336). -/
theorem levelField_eq_ofNat (v : Byte) : v.extractLsb' 5 3 = BitVec.ofNat 3 (v.toNat / 32) := extractLsb'_eq_ofNat v 5 3

/-- The sustain rate, `sr` of VxADSR2, and the rate of VxGAIN (R336). -/
theorem rateField_eq_ofNat (v : Byte) : v.extractLsb' 0 5 = BitVec.ofNat 5 (v.toNat % 32) := by
  simpa using field_eq_ofNat v 0 5

/-- The mode of VxGAIN (R336; decision D40). -/
theorem modeField_eq_ofNat (v : Byte) : v.extractLsb' 5 2 = BitVec.ofNat 2 (v.toNat / 32 % 4) := field_eq_ofNat v 5 2

/-! ### A due step of each phase, and the four GAIN modes -/

/-- The exponential decrease, `dec(e)` (R336). -/
theorem envDec_eq (e : Int) : envDec e = (e - 1) / 256 + 1 := rfl

section
variable (T : DspTables) (n : Nat) (a1 a2 : Byte) {x : Voice}

theorem envAdsr_attack (h : x.phase = .attack) : envAdsr T n a1 a2 x =
    { x with
      env := min 2047 (x.env + if a1.toNat % 16 = 15 then 1024 else 32)
      phase := if 2047 ≤ x.env + (if a1.toNat % 16 = 15 then 1024 else 32) then .decay else .attack
      nextCounter := n + T.attackRate (BitVec.ofNat 4 (a1.toNat % 16)) } := by
  have fastest : BitVec.ofNat 4 (a1.toNat % 16) = 15 ↔ a1.toNat % 16 = 15 := by
    rw [BitVec.toNat_eq]
    simp
  simp only [envAdsr, h, attackField_eq_ofNat, fastest, ge_iff_le]
  generalize x.env + (if a1.toNat % 16 = 15 then 1024 else 32) = e
  by_cases full : 2047 ≤ e
  · simp only [if_pos full, min_eq_left full]
  · simp only [if_neg full, min_eq_right (not_le.mp full).le]

theorem envAdsr_decay (h : x.phase = .decay) : envAdsr T n a1 a2 x =
    { x with
      env := x.env - ((x.env - 1) / 256 + 1)
      phase := if x.env - ((x.env - 1) / 256 + 1) ≤ 256 * (a2.toNat / 32 + 1 : Nat) then .sustain else .decay
      nextCounter := n + T.decayRate (BitVec.ofNat 3 (a1.toNat / 16 % 8)) (BitVec.ofNat 3 (a2.toNat / 32)) } := by
  have level : ((BitVec.ofNat 3 (a2.toNat / 32)).toNat : Int) + 1 = (a2.toNat / 32 + 1 : Nat) := by
    rw [BitVec.toNat_ofNat]
    omega
  simp only [envAdsr, h, decayField_eq_ofNat, levelField_eq_ofNat, level, envDec_eq]
  split_ifs <;> rfl

theorem envAdsr_sustain_hold (h : x.phase = .sustain) (hr : a2.toNat % 32 = 0) : envAdsr T n a1 a2 x = x := by
  simp [envAdsr, h, rateField_eq_ofNat, hr]

theorem envAdsr_sustain (h : x.phase = .sustain) (hr : 0 < a2.toNat % 32) : envAdsr T n a1 a2 x =
    { x with
      env := x.env - ((x.env - 1) / 256 + 1)
      nextCounter := n + T.sustainRate (BitVec.ofNat 5 (a2.toNat % 32)) (BitVec.ofNat 3 (a2.toNat / 32)) } := by
  have moving : (BitVec.ofNat 5 (a2.toNat % 32)).toNat > 0 := by
    rw [BitVec.toNat_ofNat]
    omega
  simp only [envAdsr, h, rateField_eq_ofNat, levelField_eq_ofNat, if_pos moving, envDec_eq]

end

/-- Settles O60: each mode's step waits for `next_counter` but for direct GAIN, and each due step is its phase's or its mode's. -/
theorem envelopeSteps : Obligations.EnvelopeSteps := by
  intro T n a1 a2 g x hp
  refine ⟨fun ha => ?_, fun ha => ⟨envStep_of_direct hp T a2 ha, fun hg hn => ?_, fun hg hn => ?_⟩⟩
  · rw [envStep_of_adsr hp T a2 ha]
    refine ⟨fun hn => if_neg (not_le.mpr hn), fun hn => ?_⟩
    rw [if_pos hn]
    exact ⟨envAdsr_attack T n a1 a2, envAdsr_decay T n a1 a2, envAdsr_sustain_hold T n a1 a2, envAdsr_sustain T n a1 a2⟩
  · rw [envStep_of_gain hp T a2 ha hg, if_neg (not_le.mpr hn)]
  · rw [envStep_of_gain hp T a2 ha hg, if_pos hn]
    refine ⟨fun hm => ?_, fun hm => ?_, fun hm => ?_, fun hm => ?_⟩
    all_goals simp only [envGain, modeField_eq_ofNat, hm, rateField_eq_ofNat, clamp_env_eq, envDec_eq]

end Sys2Proof.Machine
end

section
/-! PROOF (O54). What a write to a DSP register does to the register file and to each voice (60_exceptions.md R325 to R330). -/

namespace Sys2Proof.Machine

/-! ### Key-on and key-off, voice by voice -/

/-- `f` does something to the voice it is given, and only to it: no register is written, no other voice touched, and what becomes
of the voice depends on the registers and the voice alone. -/
structure ActsOnVoice (f : Dsp → Fin 8 → Dsp) : Prop where
  regs : ∀ d v, (f d v).regs = d.regs
  other : ∀ d v w, w ≠ v → (f d v).voice w = d.voice w
  determined : ∀ d e v, d.regs = e.regs → d.voice v = e.voice v → (f d v).voice v = (f e v).voice v

theorem ActsOnVoice.keyOn (ram : Memory) (n : Nat) : ActsOnVoice (keyOn ram n) where
  regs := keyOn_regs ram n
  other d _ _ h := keyOn_voice_other ram n d h
  determined d e v hr hv := by
    have started : d.startedVoice ram v = e.startedVoice ram v := by
      simp only [Dsp.startedVoice, Dsp.reg, hr, hv]
    rw [keyOn_voice_same, keyOn_voice_same, started]

theorem ActsOnVoice.keyOff : ActsOnVoice keyOff where
  regs := keyOff_regs
  other d _ _ h := keyOff_voice_other d h
  determined d e v _ hv := by rw [keyOff_voice_same, keyOff_voice_same, hv]

section
variable {f : Dsp → Fin 8 → Dsp} (hf : ActsOnVoice f)
include hf

theorem ActsOnVoice.foldl_regs (vs : List (Fin 8)) (d : Dsp) : (vs.foldl f d).regs = d.regs := by
  induction vs generalizing d with
  | nil => rfl
  | cons v vs ih => rw [List.foldl_cons, ih, hf.regs]

theorem ActsOnVoice.foldl_reg (vs : List (Fin 8)) (d : Dsp) (k : BitVec 7) : (vs.foldl f d).reg k = d.reg k := by
  rw [Dsp.reg, hf.foldl_regs, Dsp.reg]

theorem ActsOnVoice.foldl_voice_of_notMem {vs : List (Fin 8)} {v : Fin 8} (h : v ∉ vs) (d : Dsp) :
    (vs.foldl f d).voice v = d.voice v := by
  induction vs generalizing d with
  | nil => rfl
  | cons w vs ih =>
    obtain ⟨hne, hvs⟩ := List.ne_and_not_mem_of_not_mem_cons h
    rw [List.foldl_cons, ih hvs, hf.other d w v hne]

/-- A loop over distinct voices does to each what one turn would have done to it (R325). -/
theorem ActsOnVoice.foldl_voice_of_mem {vs : List (Fin 8)} (hd : vs.Nodup) {v : Fin 8} (h : v ∈ vs) (d : Dsp) :
    (vs.foldl f d).voice v = (f d v).voice v := by
  induction vs generalizing d with
  | nil => cases h
  | cons w vs ih =>
    obtain ⟨hw, hvs⟩ := List.nodup_cons.mp hd
    rw [List.foldl_cons]
    rcases List.mem_cons.mp h with rfl | hmem
    · exact hf.foldl_voice_of_notMem hw _
    · have hne : v ≠ w := fun e => hw (e ▸ hmem)
      rw [ih hvs hmem, hf.determined _ d v (hf.regs d w) (hf.other d w v hne)]

end

/-! ### The voices of a byte's bits -/

/-- The voices whose bit of `b` is 1 (R325). -/
def voicesOf (b : Byte) : List (Fin 8) := voiceIds.filter fun v => b.getLsbD v.val

theorem mem_voiceIds (v : Fin 8) : v ∈ voiceIds := by
  revert v
  decide

theorem nodup_voiceIds : voiceIds.Nodup := by decide

theorem nodup_voicesOf (b : Byte) : (voicesOf b).Nodup := nodup_voiceIds.filter _

theorem mem_voicesOf {b : Byte} {v : Fin 8} : v ∈ voicesOf b ↔ b.getLsbD v.val = true := by
  simp [voicesOf, mem_voiceIds]

/-! ### The registers -/

section
variable (ram : Memory) (n : Nat) (b : Byte) (d : Dsp)

/-- A write to KON (R325, R329). -/
theorem dspWrite_kon : dspWrite ram n 0x4C#7 b d = (voicesOf b).foldl (keyOn ram n) (d.setReg 0x4C#7 b) := rfl

/-- A write to KOFF (R325, R330). -/
theorem dspWrite_koff : dspWrite ram n 0x5C#7 b d = (voicesOf b).foldl keyOff (d.setReg 0x5C#7 b) := rfl

/-- A write to FLG (R325, R330). -/
theorem dspWrite_flg : dspWrite ram n 0x6C#7 b d =
    if b.getLsbD 7 then voiceIds.foldl keyOff (d.setReg 0x6C#7 b) else d.setReg 0x6C#7 b := by
  simp [dspWrite, regEndx, regKon, regKoff, regFlg]

/-- Only KON, KOFF and FLG do more than store (R325). -/
theorem dspWrite_voice_of_ne {k : BitVec 7} (hkon : k ≠ 0x4C#7) (hkoff : k ≠ 0x5C#7) (hflg : k ≠ 0x6C#7) (v : Fin 8) :
    (dspWrite ram n k b d).voice v = d.voice v := by
  simp only [dspWrite, regKon, regKoff, regFlg, hkon, hkoff, hflg, false_and, if_false]
  split <;> rfl

/-- A write stores its byte, but ENDX becomes 0, and no other register changes (R325). -/
theorem dspWrite_reg (k j : BitVec 7) :
    (dspWrite ram n k b d).reg j = (d.setReg k (if k = 0x7C#7 then 0 else b)).reg j := by
  unfold dspWrite
  rw [regEndx]
  split_ifs with h0 h1 h2 h3
  · rw [h0]
  · exact (ActsOnVoice.keyOn ram n).foldl_reg _ _ _
  · exact ActsOnVoice.keyOff.foldl_reg _ _ _
  · exact ActsOnVoice.keyOff.foldl_reg _ _ _
  · rfl

end

/-- A voice starts the same after a write to KON: neither DIR nor its source number is KON (R326, R329). -/
theorem Dsp.startedVoice_setReg_kon (d : Dsp) (b : Byte) (ram : Memory) (v : Fin 8) :
    (d.setReg 0x4C#7 b).startedVoice ram v = d.startedVoice ram v := by
  have source : ∀ w : Fin 8, voiceReg w 4 ≠ 0x4C#7 := by decide
  rw [Dsp.startedVoice, Dsp.reg_setReg_other d (by decide), Dsp.reg_setReg_other d (source v)]
  rfl

/-- Settles O54: KON and KOFF act on the voices of the byte's bits, FLG on all, and no other register on any. -/
theorem dspWrites : Obligations.DspWrites := by
  intro ram n k j b d v
  refine ⟨?_, fun hj => ?_, fun hkon hkoff hflg => dspWrite_voice_of_ne ram n b d hkon hkoff hflg v, ?_, ?_, fun hb => ?_,
    fun hb => ?_⟩
  · rw [dspWrite_reg, Dsp.reg_setReg_same]
  · rw [dspWrite_reg, Dsp.reg_setReg_other d hj]
  · rw [dspWrite_koff]
    split
    next hb =>
      rw [ActsOnVoice.keyOff.foldl_voice_of_mem (nodup_voicesOf b) (mem_voicesOf.mpr hb), keyOff_voice_same]
      rfl
    next hb => exact ActsOnVoice.keyOff.foldl_voice_of_notMem (mt mem_voicesOf.mp hb) _
  · rw [dspWrite_flg]
    split
    · rw [ActsOnVoice.keyOff.foldl_voice_of_mem nodup_voiceIds (mem_voiceIds v), keyOff_voice_same]
      rfl
    · rfl
  · rw [dspWrite_kon]
    exact (ActsOnVoice.keyOn ram n).foldl_voice_of_notMem (mt mem_voicesOf.mp (Bool.eq_false_iff.mp hb)) _
  · have started : (dspWrite ram n 0x4C#7 b d).voice v =
        { decodeBlock ram (d.startedVoice ram v) with pitchCounter := 0, env := 0, phase := .attack, nextCounter := n } := by
      rw [dspWrite_kon, (ActsOnVoice.keyOn ram n).foldl_voice_of_mem (nodup_voicesOf b) (mem_voicesOf.mpr hb),
        keyOn_voice_same, Dsp.startedVoice_setReg_kon]
    rw [started, decodeBlock_eq]
    exact ⟨rfl, rfl, rfl, rfl, rfl, rfl, rfl, rfl, rfl⟩

end Sys2Proof.Machine
end

section
/-! PROOF (O48 to O51). BRK and RETI, the flag instructions, SLEEP and STOP, the decimal corrections, INC and DEC
(47_flags_misc.md R273 to R286; 46_control_flow.md R271; 48_inc_dec.md R287 to R301): the whole next state of each. -/

namespace Sys2Proof.Machine

/-! ### The software trap and its return -/

/-- BRK's entry of the trap: three pushes, which leave the flags, then B and I (R284). -/
theorem State.breakTrap_eq (s : State) :
    s.breakTrap = { ((s.push (hiByte (s.pc + 1))).push (loByte (s.pc + 1))).push s.psw.toByte with
      psw := { s.psw with b := true, i := false } } := by
  simp only [State.breakTrap, State.enterTrap, State.pushWord, State.push_psw]
  rfl

/-- The trap's vector, read after the pushes, is the one that stood there before: it lies above the stack (R284). -/
theorem State.peekWord_breakTrap (s : State) :
    s.breakTrap.peekWord trapVector = wordOf (s.ram.read 0xFFDF#16) (s.ram.read 0xFFDE#16) := by
  obtain ⟨hlo, hhi⟩ := callVector_above_stack 0
  obtain ⟨hp, hp'⟩ := plainAddr_callVector 0
  have above {a : Addr} (ha : 0x0200 ≤ a.toNat) : s.breakTrap.ram.read a = s.ram.read a :=
    (State.read_push_above _ _ ha).trans (State.read_pushWord_above s _ ha)
  exact (State.peekWord_of_plain s.breakTrap hp hp').trans (congrArg₂ wordOf (above hhi) (above hlo))

/-- A return from a trap pops three bytes, PSW the first (R271). -/
theorem State.leaveTrap_eq (s : State) :
    s.leaveTrap = { s with sp := s.sp + 3, psw := Psw.ofByte (s.ram.read (stackAddr (s.sp + 1))) } := by
  simp [State.leaveTrap, State.popValue_eq, add_assoc]

/-- The address is in the two bytes after PSW (R271). -/
theorem State.trapReturn_eq (s : State) :
    s.trapReturn = wordOf (s.ram.read (stackAddr (s.sp + 3))) (s.ram.read (stackAddr (s.sp + 2))) := by
  simp [State.trapReturn, State.popWord_eq, add_assoc]

/-- Settles O48: the pushes and pops reach the stack page alone, and the vector lies outside it. -/
theorem breakAndReturn : Obligations.BreakAndReturn := by
  intro s
  refine ⟨?_, fun he => ?_⟩
  · rw [exec_brk]
    exact next_goto_eq_jumped s.breakTrap_eq s.peekWord_breakTrap (by simp) (by simp) .brk
  · refine (congrArg Host.Outcome.next (State.tierE_ext he _ _)).trans ?_
    exact next_goto_eq_jumped s.leaveTrap_eq s.trapReturn_eq rfl rfl .reti

/-! ### One flag, nothing, or the run state -/

/-- Settles O49: each effect is a record update that leaves pc, cycle and parameters. -/
theorem flagsAndHalts : Obligations.FlagsAndHalts := by
  intro s
  refine ⟨?_, ?_, ?_, ?_, ?_, ?_, ?_, ?_, ?_, ?_, ?_⟩
  all_goals exact next_advance_eq_ended rfl rfl rfl rfl

/-! ### The decimal corrections -/

/-- DAA's high correction on naturals (R285). -/
theorem daaHigh_spec (a : Byte) (c : Bool) :
    if c = true ∨ a.toNat > 0x99 then (daaHigh a c).1.toNat = (a.toNat + 0x60) % 256 ∧ (daaHigh a c).2 = true
    else (daaHigh a c).1 = a ∧ (daaHigh a c).2 = c := by
  have above : a > 0x99 ↔ a.toNat > 0x99 := BitVec.lt_def
  simp only [daaHigh, above]
  split_ifs <;> simp

/-- The low nibble is compared on naturals (R285, R286). -/
theorem lowNibble_gt_nine_iff (a : Byte) : (a.extractLsb' 0 4 : BitVec 4) > 9 ↔ a.toNat % 16 > 9 := by
  rw [gt_iff_lt, BitVec.lt_def, BitVec.extractLsb'_toNat]
  simp

/-- DAA's low correction on naturals (R285). -/
theorem daaLow_spec (a : Byte) (h : Bool) :
    if h = true ∨ a.toNat % 16 > 9 then (daaLow a h).toNat = (a.toNat + 6) % 256 else daaLow a h = a := by
  simp only [daaLow, lowNibble_gt_nine_iff]
  split_ifs <;> simp

/-- DAS's high correction on naturals (R286). -/
theorem dasHigh_spec (a : Byte) (c : Bool) :
    if c = false ∨ a.toNat > 0x99 then (dasHigh a c).1.toNat = (a.toNat + 256 - 0x60) % 256 ∧ (dasHigh a c).2 = false
    else (dasHigh a c).1 = a ∧ (dasHigh a c).2 = c := by
  have above : a > 0x99 ↔ a.toNat > 0x99 := BitVec.lt_def
  simp only [dasHigh, above, Bool.not_eq_true]
  split_ifs
  · simp [BitVec.toNat_sub]
    omega
  · simp

/-- DAS's low correction on naturals (R286). -/
theorem dasLow_spec (a : Byte) (h : Bool) :
    if h = false ∨ a.toNat % 16 > 9 then (dasLow a h).toNat = (a.toNat + 256 - 6) % 256 else dasLow a h = a := by
  simp only [dasLow, lowNibble_gt_nine_iff, Bool.not_eq_true]
  split_ifs
  · simp [BitVec.toNat_sub]
    omega
  · rfl

/-- Settles O50: the intermediate bytes are those of the two corrections, in order. -/
theorem decimalAdjust : Obligations.DecimalAdjust := by
  intro s he
  constructor
  · refine ⟨_, _, _, daaHigh_spec s.a s.psw.c, daaLow_spec _ s.psw.h, ?_⟩
    refine (congrArg Host.Outcome.next (State.tierE_ext he _ _)).trans ?_
    exact next_advance_eq_ended (State.setNZ8_eq _ _) rfl rfl rfl
  · refine ⟨_, _, _, dasHigh_spec s.a s.psw.c, dasLow_spec _ s.psw.h, ?_⟩
    refine (congrArg Host.Outcome.next (State.tierE_ext he _ _)).trans ?_
    exact next_advance_eq_ended (State.setNZ8_eq _ _) rfl rfl rfl

/-! ### INC and DEC -/

/-- The model's operation of INC, up, and of DEC (R287). -/
def step8 (up : Bool) : Byte → State → Byte × State := if up then inc8 else dec8

/-- Both give the byte one off and N and Z from it (R287). -/
theorem step8_eq (up : Bool) (v : Byte) (s : State) :
    step8 up v s = (if up then v + 1 else v - 1, { s with psw := s.psw.nz8 (if up then v + 1 else v - 1) }) := by
  cases up with
  | true => exact congrArg (Prod.mk _) (State.setNZ8_eq s _)
  | false => exact congrArg (Prod.mk _) (State.setNZ8_eq s _)

/-- Every instruction with a register form steps the form's register (R288 to R290, R294 to R296). -/
theorem exec_of_stepRegForm {i : Instr} {up : Bool} {r : Reg} (h : i.stepRegForm = some (up, r)) (s : State) :
    exec i s = .next (((step8 up (s.reg r) s).2.setReg r (step8 up (s.reg r) s).1).advance i) := by
  cases i
  case incA | incX | incY | decA | decX | decY =>
    cases h
    rfl
  -- no other instruction steps a register
  all_goals cases h

/-- Every instruction with a memory form steps the form's operand (R291 to R293, R297 to R299). -/
theorem exec_of_stepMemForm {i : Instr} {up : Bool} {l : Loc} (h : i.stepMemForm = some (up, l)) (s : State) :
    exec i s = .next ((l.modify (step8 up) s).advance i) := by
  cases i
  case incDp | incDpX | incAbs | decDp | decDpX | decAbs =>
    cases h
    rfl
  -- no other instruction steps memory
  all_goals cases h

theorem State.setReg_with_psw (s : State) (f : Psw) (r : Reg) (v : Byte) :
    State.setReg { s with psw := f } r v = { s.setReg r v with psw := f } := by
  cases r <;> rfl

/-- INCW and DECW read the word, write it back low byte first, and set N and Z from it (R300, R301). -/
theorem State.modifyDpWord_eq (s : State) (d : Byte) (w : Addr) :
    s.modifyDpWord d w =
      { ((s.touchDpWord d).memWrite (s.dp d) (loByte w)).memWrite (s.dphi d) (hiByte w) with psw := s.psw.nz16 w } := by
  rw [State.modifyDpWord, State.setNZ16_eq]
  simp [State.dpWordWrite, State.touchDpWord]

/-- Settles O51: each form is one step of its operand, and the accesses leave pc, cycle, parameters and the other flags. -/
theorem incrementDecrement : Obligations.IncrementDecrement := by
  intro i s
  refine ⟨fun up r h => ?_, fun up l h => ?_, fun d => ⟨?_, ?_⟩⟩
  · rw [exec_of_stepRegForm h, step8_eq]
    exact next_advance_eq_ended (State.setReg_with_psw s _ r _) (by simp) (by simp) (by simp)
  · rw [exec_of_stepMemForm h]
    refine next_advance_eq_ended ?_ (by simp) (by simp) (by simp)
    rw [Loc.modify, step8_eq, State.memWrite_with_psw, Loc.after_psw]
  all_goals
    refine next_advance_eq_ended (s.modifyDpWord_eq d _) ?_ ?_ ?_
    all_goals simp [State.touchDpWord]

end Sys2Proof.Machine
end

section
/-! PROOF (O5). The instruction a step executes is the one that the bytes of its fetch decode to (20_memory.md R62, R63;
60_exceptions.md R312). -/

namespace Sys2Proof.Machine

/-- Three bytes decode to the instruction of as many of them as the opcode byte announces (30_encoding.md R65; log 13). -/
theorem decode_three (op b1 b2 : Byte) :
    decode [op, b1, b2] = .ok (decodeOp op (if lengthOf op ≥ 2 then b1 else 0) (if lengthOf op = 3 then b2 else 0),
      [b1, b2].drop (lengthOf op - 1)) := by
  have hb := lengthOf_bounds op
  rw [decode_of_le (by simp; omega)]
  obtain h | h | h : lengthOf op = 1 ∨ lengthOf op = 2 ∨ lengthOf op = 3 := by omega
  all_goals simp [h]

/-- Where the opcode executes, the fetch reads as many bytes as it announces (R62). -/
theorem State.fetchLength_of_executes {s : State} (h : isTierE (s.peek s.pc) = true → s.params.extOpcodes = true) :
    s.fetchLength = lengthOf (s.peek s.pc) := if_neg fun ⟨hi, he⟩ => he (h hi)

/-- The fetched instruction is what the bytes of the fetch decode to (R62). -/
theorem State.fetched_of_decode {s : State} {i : Instr} {rest : List Byte}
    (h : isTierE (s.peek s.pc) = true → s.params.extOpcodes = true)
    (hd : decode [s.fetchBytes.op, s.fetchBytes.b1, s.fetchBytes.b2] = .ok (i, rest)) : s.fetched = i := by
  have hl := State.fetchLength_of_executes h
  rw [decode_three] at hd
  obtain ⟨rfl, -⟩ := Prod.mk.inj (Except.ok.inj hd)
  simp only [State.fetched, State.fetchBytes, hl]
  split_ifs <;> rfl

/-- A fetch at plain addresses has no side effect (R63). -/
theorem State.afterFetch_of_plain {s : State} (h0 : PlainAddr s.pc) (h1 : PlainAddr (s.pc + 1)) (h2 : PlainAddr (s.pc + 2)) :
    s.afterFetch = s := by
  have quiet {a : Addr} (h : PlainAddr a) : s.touch a = s := State.touch_of_not_counter (counterAt_of_plain h)
  have hOp : s.afterOp = s := quiet h0
  have hB1 : s.afterB1 = s := by rw [State.afterB1, hOp, quiet h1, ite_self]
  rw [State.afterFetch, hB1, quiet h2, ite_self]

/-- A fetch at plain addresses gives the RAM bytes, as many as it reads (R63). -/
theorem State.fetchBytes_of_plain {s : State} (h0 : PlainAddr s.pc) (h1 : PlainAddr (s.pc + 1)) (h2 : PlainAddr (s.pc + 2)) :
    s.fetchBytes = {
      op := s.ram.read s.pc
      b1 := if s.fetchLength ≥ 2 then s.ram.read (s.pc + 1) else 0
      b2 := if s.fetchLength = 3 then s.ram.read (s.pc + 2) else 0 } := by
  have hOp : s.afterOp = s := State.touch_of_not_counter (counterAt_of_plain h0)
  have hB1 : s.afterB1 = s := by rw [State.afterB1, hOp, State.touch_of_not_counter (counterAt_of_plain h1), ite_self]
  rw [State.fetchBytes, hOp, hB1, s.peek_of_plain h0, s.peek_of_plain h1, s.peek_of_plain h2]

/-- So the fetched instruction is what the RAM bytes decode to. -/
theorem State.fetched_of_decode_ram {s : State} {i : Instr} {rest : List Byte}
    (h : isTierE (s.peek s.pc) = true → s.params.extOpcodes = true)
    (h0 : PlainAddr s.pc) (h1 : PlainAddr (s.pc + 1)) (h2 : PlainAddr (s.pc + 2))
    (hd : decode [s.ram.read s.pc, s.ram.read (s.pc + 1), s.ram.read (s.pc + 2)] = .ok (i, rest)) : s.fetched = i := by
  have hl := State.fetchLength_of_executes h
  rw [s.peek_of_plain h0] at hl
  rw [decode_three] at hd
  obtain ⟨rfl, -⟩ := Prod.mk.inj (Except.ok.inj hd)
  rw [State.fetched, State.fetchBytes_of_plain h0 h1 h2, hl]

/-- A step of a running CPU is the fetched instruction in the state after the fetch, then the end of the step (R312). -/
theorem step_eq_next_of_exec {s t : State} (hr : s.run = .running) (ht : exec s.fetched s.afterFetch = .next t) :
    step s = .next t.endStep := by
  simp [step, hr, ht]

/-- Settles O5: the fetched instruction is the decoded one, and it completes; at plain addresses the fetched bytes are RAM's and the
fetch leaves the state. -/
theorem stepRunsDecoded : Obligations.StepRunsDecoded := by
  intro s i rest hr hx
  refine ⟨fun hd => ?_, fun h0 h1 h2 hd => ?_⟩
  · obtain ⟨t, ht, -⟩ := exec_completes i s.afterFetch
    rw [ht]
    exact step_eq_next_of_exec hr (by rw [State.fetched_of_decode hx hd, ht])
  · obtain ⟨t, ht, -⟩ := exec_completes i s
    rw [ht]
    exact step_eq_next_of_exec hr
      (by rw [State.fetched_of_decode_ram hx h0 h1 h2 hd, State.afterFetch_of_plain h0 h1 h2, ht])

end Sys2Proof.Machine
end

section
/-! PROOF (O23). COST is read at the end of an instruction alone (60_exceptions.md R312; 70_reset_and_hazards.md R346): every
operation run with another COST table gives what it gave, with that table. An operation that stores nothing and does not branch on
the state commutes with the change of table by definition; the lemmas are about the others. -/

namespace Sys2Proof.Machine

/-- The state with another COST table. -/
def State.withCosts (s : State) (costs : List CostEntry) : State := { s with params := { s.params with costs := costs } }

/-- `u` is `t` with another COST table and another cycle count. -/
def State.SameButCost (costs : List CostEntry) (t u : State) : Prop := ∃ n : Nat, u = { t.withCosts costs with cycle := n }

section
variable (s : State) (costs : List CostEntry)

/-! ### Stores -/

theorem State.memWrite_withCosts (a : Addr) (v : Byte) :
    (s.withCosts costs).memWrite a v = (s.memWrite a v).withCosts costs := by
  unfold State.memWrite
  split_ifs
  · rfl
  · rfl
  · rfl
  · split <;> rfl

theorem State.dpWordWrite_withCosts (o : Byte) (w : Addr) :
    (s.withCosts costs).dpWordWrite o w = (s.dpWordWrite o w).withCosts costs := by
  rw [State.dpWordWrite, State.memWrite_withCosts, State.memWrite_withCosts]
  rfl

theorem State.push_withCosts (v : Byte) : (s.withCosts costs).push v = (s.push v).withCosts costs := by
  rw [State.push, State.memWrite_withCosts]
  rfl

theorem State.pushWord_withCosts (w : Addr) : (s.withCosts costs).pushWord w = (s.pushWord w).withCosts costs := by
  rw [State.pushWord, State.push_withCosts, State.push_withCosts]
  rfl

theorem State.enterTrap_withCosts (ret : Addr) : (s.withCosts costs).enterTrap ret = (s.enterTrap ret).withCosts costs := by
  dsimp only [State.enterTrap]
  rw [State.pushWord_withCosts, State.push_withCosts]
  rfl

theorem State.modifyDpWord_withCosts (d : Byte) (w : Addr) :
    (s.withCosts costs).modifyDpWord d w = (s.modifyDpWord d w).withCosts costs :=
  congrArg (State.setNZ16 · w) ((s.touchDpWord d).dpWordWrite_withCosts costs d w)

theorem State.peekWord_withCosts (a : Addr) : (s.withCosts costs).peekWord a = s.peekWord a := rfl

theorem State.touchWord_withCosts (a : Addr) : (s.withCosts costs).touchWord a = (s.touchWord a).withCosts costs := rfl

theorem Loc.addr_withCosts (l : Loc) : l.addr (s.withCosts costs) = l.addr s := by cases l <;> rfl

theorem Loc.value_withCosts (l : Loc) : l.value (s.withCosts costs) = l.value s := by cases l <;> rfl

theorem Loc.walk_withCosts (l : Loc) : l.walk (s.withCosts costs) = (l.walk s).withCosts costs := by cases l <;> rfl

theorem Loc.after_withCosts (l : Loc) : l.after (s.withCosts costs) = (l.after s).withCosts costs := by cases l <;> rfl

theorem Loc.store_withCosts (l : Loc) (v : Byte) : l.store v (s.withCosts costs) = (l.store v s).withCosts costs := by
  rw [Loc.store, Loc.walk_withCosts, Loc.addr_withCosts, State.memWrite_withCosts, Loc.store]

/-- A read-modify-write, whose byte operation does not read COST. -/
theorem Loc.modify_withCosts (l : Loc) {f : Byte → State → Byte × State}
    (hf : ∀ v u, f v (u.withCosts costs) = ((f v u).1, (f v u).2.withCosts costs)) :
    l.modify f (s.withCosts costs) = (l.modify f s).withCosts costs := by
  dsimp only [Loc.modify]
  rw [Loc.value_withCosts, Loc.after_withCosts, Loc.addr_withCosts, hf, State.memWrite_withCosts]

/-- An ALU operation on a memory byte, whose byte operation does not read COST. -/
theorem State.aluMem_withCosts (dst : Loc) (o : Src) {f : Byte → Byte → State → Byte × State}
    (hf : ∀ x m u, f x m (u.withCosts costs) = ((f x m u).1, (f x m u).2.withCosts costs)) :
    (s.withCosts costs).aluMem f dst o = (s.aluMem f dst o).withCosts costs := by
  have hvalue : o.value (s.withCosts costs) = o.value s := by
    cases o with
    | imm v => rfl
    | mem l => exact l.value_withCosts s costs
  have hafter : o.after (s.withCosts costs) = (o.after s).withCosts costs := by
    cases o with
    | imm v => rfl
    | mem l => exact l.after_withCosts s costs
  rw [State.aluMem, hvalue, hafter]
  exact Loc.modify_withCosts _ costs dst fun x u => hf x _ u

/-! ### Branches on the state -/

theorem State.divYA_withCosts : (s.withCosts costs).divYA = s.divYA.withCosts costs := by
  dsimp only [State.divYA]
  rw [apply_ite (State.withCosts · costs)]
  rfl

end

/-! ### The end of an instruction -/

section
variable {s t u : State} {costs : List CostEntry}

/-- The end of an instruction takes its cost from the table, to `cycle` alone (R312). -/
theorem State.SameButCost.goto (h : u = t.withCosts costs) {i : Instr} {taken : Bool} {target : Addr} :
    State.SameButCost costs (t.goto i taken target) (u.goto i taken target) :=
  ⟨(u.goto i taken target).cycle, by rw [h]; rfl⟩

theorem State.SameButCost.advance (h : u = t.withCosts costs) {i : Instr} :
    State.SameButCost costs (t.advance i) (u.advance i) := by
  subst h
  exact .goto rfl

theorem State.SameButCost.branch (h : u = t.withCosts costs) {i : Instr} {taken : Bool} {r : Byte} :
    State.SameButCost costs (t.branch i taken r) (u.branch i taken r) := by
  subst h
  exact .goto rfl

/-- A tier E instruction looks at EXT_OPCODES, and raises with no cost (60_exceptions.md R304). -/
theorem State.SameButCost.tierE (h : State.SameButCost costs t u) {i : Instr} :
    State.SameButCost costs (s.tierE i t) ((s.withCosts costs).tierE i u) := by
  cases he : s.params.extOpcodes with
  | true =>
    have he' : (s.withCosts costs).params.extOpcodes = true := he
    rwa [State.tierE_ext he, State.tierE_ext he']
  | false =>
    have he' : (s.withCosts costs).params.extOpcodes = false := he
    rw [State.tierE_unknown he, State.tierE_unknown he']
    exact ⟨s.cycle, rfl⟩

end

/-! ### Every instruction -/

/-- Every instruction does the same with another COST table, but for `cycle`. -/
theorem exec_withCosts (i : Instr) (s : State) (costs : List CostEntry) :
    ∃ t u, exec i s = .next t ∧ exec i (s.withCosts costs) = .next u ∧ State.SameButCost costs t u := by
  cases i
  -- stores
  case movIndXA | movDpA | movDpXA | movAbsA | movAbsXA | movAbsYA | movIdxIndA | movIndIdxA | movDpX | movDpYX | movAbsX
      | movDpY | movDpXY | movAbsY | movDpImm =>
    exact ⟨_, _, rfl, rfl, .advance (Loc.store_withCosts s costs _ _)⟩
  case movIndXIncA => exact ⟨_, _, rfl, rfl, .advance (congrArg State.stepX (Loc.store_withCosts s costs .indX s.a))⟩
  case movDpDp ds dd => exact ⟨_, _, rfl, rfl, .advance (Loc.store_withCosts ((Loc.dp ds).after s) costs (.dp dd) _)⟩
  case movwDpYA d => exact ⟨_, _, rfl, rfl, .advance (s.dpWordWrite_withCosts costs d s.ya)⟩
  -- operands read, changed and written back
  case aslDp | aslDpX | aslAbs | lsrDp | lsrDpX | lsrAbs | rolDp | rolDpX | rolAbs | rorDp | rorDpX | rorAbs | set1 | clr1
      | tset1 | tclr1 | incDp | incDpX | incAbs | decDp | decDpX | decAbs =>
    exact ⟨_, _, rfl, rfl, .advance (Loc.modify_withCosts s costs _ fun _ _ => rfl)⟩
  case dbnzDp d r => exact ⟨_, _, rfl, rfl, .branch (Loc.modify_withCosts s costs (.dp d) fun _ _ => rfl)⟩
  case mov1MemC | not1 => exact ⟨_, _, rfl, rfl, .tierE (.advance (Loc.modify_withCosts s costs _ fun _ _ => rfl))⟩
  case orIndXIndY | orDpDp | orDpImm | andIndXIndY | andDpDp | andDpImm | eorIndXIndY | eorDpDp | eorDpImm | adcIndXIndY
      | adcDpDp | adcDpImm | sbcIndXIndY | sbcDpDp | sbcDpImm =>
    exact ⟨_, _, rfl, rfl, .advance (s.aluMem_withCosts costs _ _ fun _ _ _ => rfl)⟩
  case incw d | decw d => exact ⟨_, _, rfl, rfl, .advance (s.modifyDpWord_withCosts costs d _)⟩
  -- pushes
  case pushA | pushX | pushY | pushPsw => exact ⟨_, _, rfl, rfl, .advance (s.push_withCosts costs _)⟩
  case call => exact ⟨_, _, rfl, rfl, .goto (s.pushWord_withCosts costs _)⟩
  case pcall => exact ⟨_, _, rfl, rfl, .tierE (.goto (s.pushWord_withCosts costs _))⟩
  case tcall n =>
    refine ⟨_, _, rfl, rfl, .tierE ?_⟩
    have pushed : (s.withCosts costs).tableCall n = (s.tableCall n).withCosts costs := s.pushWord_withCosts costs _
    rw [pushed, State.peekWord_withCosts]
    exact .goto ((s.tableCall n).touchWord_withCosts costs (callVector n))
  case brk =>
    refine ⟨_, _, exec_brk s, exec_brk _, ?_⟩
    have entered : (s.withCosts costs).breakTrap = s.breakTrap.withCosts costs := s.enterTrap_withCosts costs _
    rw [entered, State.peekWord_withCosts]
    exact .goto rfl
  -- neither a store nor a branch on the state
  case div => exact ⟨_, _, rfl, rfl, .advance (s.divYA_withCosts costs)⟩
  case bbs | bbc | cbneDp | cbneDpX | dbnzY | bpl | bmi | bvc | bvs | bcc | bcs | bne | beq =>
    exact ⟨_, _, rfl, rfl, .branch rfl⟩
  case bra | jmpAbs | jmpIdxInd | ret => exact ⟨_, _, rfl, rfl, .goto rfl⟩
  case reti => exact ⟨_, _, rfl, rfl, .tierE (.goto rfl)⟩
  case cmpw | or1 | or1Not | and1 | and1Not | eor1 | mov1CMem | daa | das =>
    exact ⟨_, _, rfl, rfl, .tierE (.advance rfl)⟩
  all_goals exact ⟨_, _, rfl, rfl, .advance rfl⟩

/-- Settles O23: the two next states are those of `exec_withCosts`. -/
theorem costIndependence : Obligations.CostIndependence := by
  intro i s t costs ht
  obtain ⟨t', u, ht', hu, n, rfl⟩ := exec_withCosts i s costs
  obtain rfl := Host.Outcome.next.inj (ht.symm.trans ht')
  exact ⟨n, hu⟩

end Sys2Proof.Machine
end
